-- ==== Sys2Proof/Word.lean ====
section
/-! DEFINITION. The word widths and index types of the TQ-256 (00 Conventions, 10 R177). -/

namespace Sys2Proof

/-- One byte of the window or of a stick. -/
abbrev Byte := BitVec 8

/-- A two-byte field (R177). -/
abbrev Half := BitVec 16

/-- A four-byte field or a register (R177, R179). -/
abbrev Word := BitVec 32

/-- An eight-byte word: the reject mask of the filter (R181). -/
abbrev Long := BitVec 64

/-- A slot number, lane × 16 + port (00 Conventions). -/
abbrev SlotIx := Fin 256

/-- A lane number; a board has the number of its lane (00 Conventions). -/
abbrev LaneIx := Fin 16

/-- A receptacle position on a board (R124). -/
abbrev PortIx := Fin 16

/-- A job number (R1). -/
abbrev JobIx := Fin 4

end Sys2Proof
end

