-- ==== Sys2Proof/Syntax.lean ====
section
/-! DEFINITION. The commands of the block: one constructor per row of the operation and event table,
with the operands the part cannot know by itself (log entry 3): register values, which job, slot,
lane or board, answers of sticks and hubs, rail levels, image memory read errors, and the bytes the
host has written into the window since the command before. -/

namespace Sys2Proof

/-- The strap values captured at the release of a power-on or pin reset (R163). -/
structure Straps where
  lanes : BitVec 4
  memory1GiB : Bool
  reference40MHz : Bool
  deriving DecidableEq, Repr

/-- One interface of a stick's first configuration, as read in step 3 of an attempt (R60). -/
structure Iface where
  cls : Byte
  commandSet : Byte
  transport : Byte
  bulkIn : Nat
  bulkOut : Nat
  deriving DecidableEq, Repr

/-- The status of a stick's status reply (R104). -/
inductive ReplyStatus where
  | passed
  | failed
  | phaseError
  deriving DecidableEq, Repr

/-- The category a stick gives for its last failure (R104). -/
inductive SenseCategory where
  | notReady
  | unitAttention
  | mediumFault
  | hardwareFault
  | writeProtected
  | illegalRequest
  | other
  deriving DecidableEq, Repr

/-- What the part observed of a sense query (R105). -/
inductive SenseSeen where
  | stalled
  | malformed
  | replied (status : ReplyStatus) (residue : Word) (category : SenseCategory)
  deriving DecidableEq, Repr

/-- What the part observed in the status stage (R104, R105). -/
inductive StatusSeen where
  | stalled
  | replied (length : Nat) (marker tag residue : Word) (status : ReplyStatus)
  deriving DecidableEq, Repr

/-- What the part observed of a DATA transaction (R104): a stall of the command or data stage, the
bytes moved, the data of a read, the answer to a capacity query, the status stage, the sense query. -/
structure DataAnswer where
  commandStalled : Bool
  dataStalled : Bool
  moved : Nat
  data : List Byte
  lastBlock : Word
  blockLength : Word
  status : StatusSeen
  sense : SenseSeen
  deriving DecidableEq, Repr

/-- The answer to a CONTROL transaction (R60, R111, R127, R139). -/
inductive ControlAnswer where
  | good
  | refused
  | disconnected
  | description (vendor product : Half) (serialIndex : Byte) (ifaces : List Iface)
  | serial (chars : List Half)
  | recovery (reset clearIn clearOut : Bool)
  deriving DecidableEq, Repr

/-- The completion of a transaction (R133). -/
inductive Answer where
  | data (a : DataAnswer)
  | control (a : ControlAnswer)
  deriving DecidableEq, Repr

/-- How an exchange of a bring-up or rebuild ends (R121): with success; with a description of the
device; with the lower hub configured, its port status showing ports held in overcurrent (R152);
without success; or at its 500 ms. -/
inductive ExchangeEnd where
  | ok
  | described (isHub : Bool) (ports : Nat) (powerSwitching indicators : Bool)
  | configured (overcurrent : BitVec 4)
  | failed
  | timedOut
  deriving DecidableEq, Repr

/-- How the reads of an intake went (R35): no error, an error in the cell, or in digest entry n. -/
inductive IntakeRead where
  | ok
  | cellError
  | digestError
  deriving DecidableEq, Repr

/-- The commands, in the order of the operation and event table. `host` lists the bytes the host has
written into the window before the command, in issue order (R169). -/
inductive Instr where
  | powerOnReset (straps : Straps)
  | pinReset (straps : Straps)
  | softReset (enableBit : Bool)
  | enable
  | quiesce
  | engineQuiesced
  | attention (value : Word) (host : List Host.Cell)
  | causeClear (value : Word)
  | causeEnableWrite (value : Word)
  | registerWrite (offset : Nat) (value : Word)
  | scanIntervalExpiry
  | commandCountRead (error : Bool) (host : List Host.Cell)
  | publishFieldRead (job : JobIx) (error : Bool) (host : List Host.Cell)
  | consumedCountRead (error : Bool) (host : List Host.Cell)
  | applySettings
  | settingsRecordReadDone (error : Bool) (host : List Host.Cell)
  | outcomeListChangeJudge
  | unknownCommand
  | defineJob
  | jobRecordReadDone (error : Bool) (host : List Host.Cell)
  | extentEntryRead (error : Bool) (host : List Host.Cell)
  | setPriority
  | pauseJob
  | resumeJob
  | closeJob
  | abortJob
  | releaseJob
  | startPass
  | assignSlots
  | setFilter
  | filterRecordReadDone (error : Bool) (host : List Host.Cell)
  | ejectSlot
  | setIndicator
  | restoreBoard
  | portRestore
  | intakeStart
  | intakeDone (read : IntakeRead) (host : List Host.Cell)
  | jobPaused (job : JobIx)
  | jobEnded (job : JobIx)
  | passEnd (job : JobIx)
  | lagHoldTimerExpiry (job : JobIx)
  | pendingEndApply (slot : SlotIx)
  | attachNotice (slot : SlotIx)
  | detachNotice (slot : SlotIx)
  | overcurrentNotice (slot : SlotIx)
  | hubLoss (lane : LaneIx) (hubPort : Fin 5)
  | attachRelease (slot : SlotIx)
  | settleTimerExpiry (slot : SlotIx)
  | backoffTimerExpiry (slot : SlotIx)
  | blinkPhaseToggle
  | laneGrant (lane : LaneIx)
  | transactionCompletion (slot : SlotIx) (answer : Answer) (digestError : Bool) (host : List Host.Cell)
  | transactionTimerExpiry (slot : SlotIx)
  | lateAnswer (slot : SlotIx) (bulk : Bool) (tag : Word) (statusStage : Bool)
  | retryWaitExpiry (lane : LaneIx)
  | bringUpStart (lane : LaneIx)
  | bringUpExchangeEnd (lane : LaneIx) (result : ExchangeEnd) (connected : BitVec 16)
  | rebuildExchangeEnd (lane : LaneIx) (result : ExchangeEnd) (connected : BitVec 16)
  | conversionStart
  | conversionDone (level : Fin 16)
  | powerGroupIntervalExpiry (board : LaneIx)
  | outcomeRecordWriteStart
  | outcomeRecordWriteDone
  | commandSnapshotReturn (error : Bool) (host : List Host.Cell)
  | copyDataReadError (slot : SlotIx)
  deriving DecidableEq, Repr

end Sys2Proof
end

