-- ==== Sys2Proof/Decode.lean ====
section
/-! DEFINITION. No row of the operation and event table gives bits: no word spells a command. -/

namespace Sys2Proof

/-- The command a word spells by the table's bits: none, as the table gives no row any bits. -/
def decodeTableWord (_nbits _w : Nat) : Option Instr := none

end Sys2Proof
end

