-- ==== Sys2Proof/Config.lean ====
section
/-! DEFINITION. What an implementation fixes: the fixed times of the manual, and the values that
the manual leaves open and the model names (each with its log entry). -/

namespace Sys2Proof.Config

/-- What a byte of the image memory that nothing has written reads as.
DESIGN CHOICE (log entry 4, unsafe): the manual says the memory is undefined after power-on (R167). -/
def unlistedByte : Byte := 0

/-- The fitted lane count minus 1 that `State.reset` has captured.
DESIGN CHOICE (log entry 5, unsafe): the strap is a pin. -/
def resetLaneStrap : BitVec 4 := 15

/-- The memory size strap that `State.reset` has captured. DESIGN CHOICE (log entry 5, unsafe). -/
def resetMemoryStrap : Bool := true

/-- The reference select strap that `State.reset` has captured. DESIGN CHOICE (log entry 5, unsafe). -/
def resetReferenceStrap : Bool := false

/-- The fixed CONTROL timeout in ms, also of every bring-up exchange (R121, R132). -/
def controlTimeout : Nat := 500

/-- The retry wait of a lane in ms (R120). -/
def retryWait : Nat := 5000

/-- The NOT_READY backoff in ms (R69, R108). -/
def backoff : Nat := 100

/-- The length of a rail conversion in ms (R144). -/
def conversionTime : Nat := 1

/-- Half a blink period in ms (R78). -/
def blinkHalf : Nat := 500

/-- The count of expiries in a row that resets a lane (R135). -/
def healthLimit : Nat := 8

/-- The last not-ready count that does not fail a life (R69, R108). -/
def notReadyLimit : Nat := 50

/-- The part code of the identity register (R163). -/
def partCode : Nat := 0x2F56

/-- The revision in the identity register (R163). -/
def revision : Nat := 1

/-- The marker word of a probe signature (R182). -/
def signatureMarker : Word := 0x7E51A9C3

/-- The marker of a stick's status reply (R183). -/
def statusMarker : Word := 0x53425355

/-- The length of a stick's status reply in bytes (R183). -/
def statusLength : Nat := 13

end Sys2Proof.Config
end

