-- ==== Sys2Proof/Machine/State.lean ====
section
/-! DEFINITION. The state of the TQ-256: every register, table, queue, counter and timer that the
chapters give its ten blocks, the image memory, and the queue of waiting commands; and the state
after reset. Quantities the manual defines from other state (member counts, active set, lowest
resume chunk, interrupt line) are computed where they are read (log entry 8). -/

namespace Sys2Proof.Machine

/-! ### Faults and refusals -/

/-- What stops the machine. -/
inductive Fault where
  /-- Raised by a command whose operand has a host write at an offset outside the fitted image memory
  (R163: there is no such address). Safe: the part never sees such a write (log entry 27). -/
  | outsideWindow
  deriving DecidableEq, Repr

/-- Commands the model gives no meaning. -/
inductive Refusal where
  /-- Raised by an arm of `exec` without a meaning. Safe: nothing is claimed about that command. -/
  | notModelled (mnemonic : String)
  deriving DecidableEq, Repr

/-! ### Job contexts and staging (chapters 1 and 2) -/

/-- The job states (R1). -/
inductive JobState where
  | vacant
  | standby
  | running
  | pausing
  | paused
  | closing
  | aborting
  | ended
  deriving DecidableEq, Repr

/-- The remembered state of a paused job (R1). -/
inductive Remembered where
  | standby
  | running
  deriving DecidableEq, Repr

/-- Lag policy (R3). -/
inductive LagPolicy where
  | wait
  | defer
  | fail
  deriving DecidableEq, Repr

/-- Verify mode (R3). -/
inductive VerifyMode where
  | none
  | digest
  deriving DecidableEq, Repr

/-- Probe mode (R3). -/
inductive ProbeMode where
  | off
  | quick
  | full
  deriving DecidableEq, Repr

/-- Kind of an extent (R4). -/
inductive ExtentKind where
  | copy
  | fill
  deriving DecidableEq, Repr

/-- An extent: the blocks [first, first + count) (R4). -/
structure Extent where
  first : Nat
  count : Nat
  kind : ExtentKind
  deriving DecidableEq, Repr

/-- Chunk class (R6). -/
inductive ChunkClass where
  | data
  | pattern
  | void
  deriving DecidableEq, Repr

/-- The job record copy, less the extent list offset and count (R1, R3). -/
structure JobRecord where
  stagingOffset : Nat
  digestOffset : Nat
  floor : Nat
  lagHold : Nat
  k : Nat
  depth : Nat
  policy : LagPolicy
  verify : VerifyMode
  probe : ProbeMode
  fill : Byte
  priority : Nat
  deriving DecidableEq, Repr

/-- Why a job aborts (R1, R22). -/
inductive AbortReason where
  | aborted
  | imageChanged
  deriving DecidableEq, Repr

/-- One job context with its staging state (R1, R25). `chunks` is N, `span` is B, `blocks` is Wb,
`chunkSize` is C; `v`, `p`, `i`, `f`, `d` are the staging counts. `lagMarked` says, while the
spent mark is set, that its expiry marked a slot (R47, R48; log entry 36). -/
structure Job where
  state : JobState
  remembered : Remembered
  passActive : Bool
  record : JobRecord
  extents : List Extent
  span : Nat
  chunkSize : Nat
  chunks : Nat
  blocks : Nat
  priority : Nat
  passNo : Nat
  abortReason : AbortReason
  faultDetail : Option AbortReason
  v : Nat
  p : Nat
  i : Nat
  f : Nat
  d : Nat
  lastSeen : Option (Half × Word)
  intakeInFlight : Bool
  lagTimer : Nat
  lagRunning : Bool
  lagSpent : Bool
  lagMarked : Bool
  deriving DecidableEq, Repr

/-- A record copy of zeros (R2). -/
def JobRecord.zero : JobRecord :=
  { stagingOffset := 0, digestOffset := 0, floor := 0, lagHold := 0, k := 0, depth := 0,
    policy := .wait, verify := .none, probe := .off, fill := 0, priority := 0 }

/-- A job context after reset (R2, R26). -/
def Job.reset : Job :=
  { state := .vacant, remembered := .standby, passActive := false, record := .zero, extents := [],
    span := 0, chunkSize := 0, chunks := 0, blocks := 0, priority := 0, passNo := 0,
    abortReason := .aborted, faultDetail := none, v := 0, p := 0, i := 0, f := 0, d := 0,
    lastSeen := none, intakeInFlight := false, lagTimer := 0, lagRunning := false,
    lagSpent := false, lagMarked := false }

/-- The intake the digest unit is busy with (R25). -/
structure Intake where
  job : JobIx
  chunk : Nat
  crc : Word
  reIntake : Bool
  deriving DecidableEq, Repr

/-! ### Slots (chapters 3 to 5) -/

/-- The thirteen slot states (R56). -/
inductive SlotState where
  | empty
  | settling
  | enumerating
  | idle
  | sizing
  | probing
  | ready
  | writing
  | deferred
  | verifying
  | passed
  | failed
  | rejected
  deriving DecidableEq, Repr

/-- The reasons of verdicts (R183). -/
inductive Reason where
  | none
  | removed
  | enumFailed
  | unsupported
  | blockSize
  | tooSmall
  | fakeCapacity
  | writeProtect
  | notReady
  | writeError
  | readError
  | unresponsive
  | errorBudget
  | verifyMismatch
  | laggard
  | aborted
  | jobClosed
  | imageChanged
  | overcurrent
  | railLost
  | laneReset
  | operator
  | filtered
  deriving DecidableEq, Repr

/-- An end that waits for the transaction in flight (R72). -/
inductive PendingEnd where
  | none
  | defer
  | laggard
  | operator
  | aborted
  | imageChanged
  deriving DecidableEq, Repr

/-- What an indicator shows (R78). -/
inductive Lamp where
  | off
  | green
  | amber
  deriving DecidableEq, Repr

/-- Indicator override (R80). -/
inductive Override where
  | auto
  | off
  | green
  | amber
  | blinkGreen
  | blinkAmber
  deriving DecidableEq, Repr

/-- Phase of a capacity probe (R81). -/
inductive ProbePhase where
  | write
  | read
  | scrub
  deriving DecidableEq, Repr

/-- The probe position (R81). -/
structure ProbePosition where
  count : Nat
  phase : ProbePhase
  index : Nat
  intact : Nat
  deriving DecidableEq, Repr

/-- The answer to a capacity query (R70). -/
structure Capacity where
  lastBlock : Word
  blockLength : Word
  deriving DecidableEq, Repr

/-- One slot record (R53), with the shown progress (R103). `capacityNext` says which sizing query
comes next (R69); `capacity` is none until the capacity query has been answered. In DEFERRED the
resume point is `writeChunk` (R49). -/
structure Slot where
  state : SlotState
  member : Option JobIx
  vendor : Half
  product : Half
  serial : List Byte
  truncated : Bool
  ifaces : List Iface
  iface : Option Iface
  capacityNext : Bool
  capacity : Option Capacity
  nonce : Word
  probe : Option ProbePosition
  writeChunk : Nat
  writeOffset : Nat
  verifyChunk : Nat
  verifyOffset : Nat
  written : Nat
  verified : Nat
  verifyCrc : Word
  attempts : Nat
  retries : Nat
  stickErrors : Nat
  notReady : Nat
  pendingEnd : PendingEnd
  outcomePending : Bool
  attachWaiting : Bool
  reason : Reason
  firstBad : Option Nat
  honest : Option Nat
  lifeStart : Word
  settle : Nat
  backoff : Option Nat
  override : Override
  desired : Lamp
  lastSent : Option Lamp
  pendingLamp : Option Lamp
  progress : Nat
  deriving DecidableEq, Repr

/-- A slot record after reset (R54, R81). R54 names neither the verify CRC, which is set only at the entry
into VERIFYING (R99), nor the life start time, which is set as a life begins (R56): 0 is a DESIGN CHOICE
for both (log entry 9, unsafe). -/
def Slot.reset : Slot :=
  { state := .empty, member := none, vendor := 0, product := 0, serial := [], truncated := false,
    ifaces := [], iface := none, capacityNext := false, capacity := none, nonce := 0, probe := none,
    writeChunk := 0, writeOffset := 0, verifyChunk := 0, verifyOffset := 0, written := 0,
    verified := 0, verifyCrc := 0, attempts := 0, retries := 0, stickErrors := 0, notReady := 0,
    pendingEnd := .none, outcomePending := false, attachWaiting := false, reason := .none,
    firstBad := none, honest := none, lifeStart := 0, settle := 0, backoff := none,
    override := .auto, desired := .off, lastSent := none, pendingLamp := none, progress := 0 }

/-- One exact entry of the admission filter (R64). -/
structure FilterEntry where
  valid : Bool
  reject : Bool
  vendor : Half
  product : Half
  deriving DecidableEq, Repr

/-- The admission filter (R64). -/
structure AdmissionFilter where
  entries : Vector FilterEntry 8
  mask : Long
  deriving DecidableEq, Repr

/-- The filter after reset (R64); the fields of an invalid entry: log entry 9. -/
def AdmissionFilter.reset : AdmissionFilter :=
  { entries := Vector.replicate 8 { valid := false, reject := false, vendor := 0, product := 0 },
    mask := 0 }

/-! ### Lanes (chapter 6) -/

/-- Lane states (R116). -/
inductive LaneState where
  | absent
  | down
  | bringingUp
  | up
  | resetting
  deriving DecidableEq, Repr

/-- Kinds of last lane fault (R116). -/
inductive LaneFaultKind where
  | none
  | rootPort
  | upperHub
  | lowerHub
  | hubLost
  | health
  deriving DecidableEq, Repr

/-- The last lane fault with its upper hub port, 0 where it has none (R116, R136). -/
structure LaneFault where
  kind : LaneFaultKind
  hubPort : Nat
  deriving DecidableEq, Repr

/-- Kinds of CONTROL request (R128). -/
inductive ControlKind where
  | portPowerOn
  | portPowerOff
  | portReset
  | setAddress
  | readDescription
  | readSerial
  | selectConfiguration
  | resetRecovery
  | lamp
  deriving DecidableEq, Repr

/-- Kinds of DATA transaction (R104, R128). -/
inductive DataKind where
  | unitReady
  | capacity
  | probeWrite
  | probeRead
  | scrubWrite
  | imageWrite
  | flush
  | verifyRead
  deriving DecidableEq, Repr

/-- The request of a DATA transaction: kind, first block address, block count (R104). -/
structure DataRequest where
  kind : DataKind
  first : Nat
  count : Nat
  deriving DecidableEq, Repr

/-- What a place holds: a CONTROL request, an indicator request with its value, or a DATA request
with the tag of its command block (R128, R139). -/
inductive Transaction where
  | control (kind : ControlKind)
  | lamp (value : Lamp)
  | data (request : DataRequest) (tag : Word)
  deriving DecidableEq, Repr

/-- An occupied transaction place (R128). `address` is the bus address the transaction uses: the
stick's, which step 2 of an attempt gives it, or that of the lower hub which carries out a hub port or
indicator request (R116, R124). `disowned`: the end is not acted on (R152). -/
structure Place where
  port : PortIx
  address : Nat
  transaction : Transaction
  timer : Nat
  timeout : Nat
  disowned : Bool
  deriving DecidableEq, Repr

/-- A CONTROL request that is ready and not yet granted (R130). -/
structure ReadyControl where
  port : PortIx
  kind : ControlKind
  deriving DecidableEq, Repr

/-- Exchanges of bring-up step 2 (R121). -/
inductive UpperStep where
  | address
  | describe
  | configure
  deriving DecidableEq, Repr

/-- Exchanges of bring-up step 3 for one lower hub (R121). -/
inductive LowerStep where
  | power
  | reset
  | address
  | describe
  | configure
  deriving DecidableEq, Repr

/-- The exchange a bring-up or rebuild is in (R121, R137). -/
inductive TreeStep where
  | rootPort
  | upperHub (step : UpperStep)
  | lowerHub (hub : Fin 4) (step : LowerStep)
  | noticeChannel (hub : Fin 5)
  | portPower (port : PortIx)
  deriving DecidableEq, Repr

/-- What an exchange of a bring-up or rebuild asks of the tree (R121, R137): the root port reset; a
device given its bus address, described, configured; an upper hub port powered, reset; the notice
channel of a hub opened; a port of a lower hub switched on or off. Hubs go by their bus addresses
(R116), hub ports from 1 (R124). -/
inductive TreeRequest where
  | resetRoot
  | giveAddress (address : Nat)
  | describe (address : Nat)
  | configure (address : Nat)
  | powerHubPort (hubPort : Nat)
  | resetHubPort (hubPort : Nat)
  | openNotices (address : Nat)
  | setPower (hub hubPort : Nat) (on : Bool)
  deriving DecidableEq, Repr

/-- Progress of a bring-up or rebuild: its exchange, what that exchange asks, its timer, and the ports
whose lower hub reported overcurrent when it was configured (R121, R152). -/
structure Tree where
  step : TreeStep
  request : TreeRequest
  timer : Nat
  overcurrent : BitVec 16
  deriving DecidableEq, Repr

/-- One lane (R116). `ready` lists the ready CONTROL requests, earliest first. -/
structure Lane where
  state : LaneState
  retryWait : Option Nat
  places : Vector (Option Place) 4
  pointer : PortIx
  ready : List ReadyControl
  health : Nat
  resets : Nat
  fault : LaneFault
  tag : Word
  tree : Option Tree
  deriving DecidableEq, Repr

/-- A lane after reset (R117). -/
def Lane.reset (straps : Straps) (l : LaneIx) : Lane :=
  { state := if l.val ≤ straps.lanes.toNat then .down else .absent, retryWait := none,
    places := Vector.replicate 4 none, pointer := 0, ready := [], health := 0, resets := 0,
    fault := { kind := .none, hubPort := 0 }, tag := 0, tree := none }

/-! ### Boards and the converter (chapter 7) -/

/-- Board power states (R143). -/
inductive BoardState where
  | unfitted
  | off
  | ramping
  | on
  | lost
  deriving DecidableEq, Repr

/-- Sampling modes (R144). -/
inductive SamplingMode where
  | none
  | fast
  | quiet
  deriving DecidableEq, Repr

/-- Port power states (R148). -/
inductive PortPower where
  | off
  | on
  | locked
  deriving DecidableEq, Repr

/-- Staged power-up (R141, R149): `armed` is started while SAGGING with no group taken; a running group
keeps the interval it was taken with (R174). -/
inductive Staged where
  | idle
  | armed
  | running (timer interval : Nat)
  deriving DecidableEq, Repr

/-- One board record with its port power states (R141). `waitingPower` holds the ports whose power on
request waits for the lane's entry into UP (R123, R138; log entry 12). -/
structure Board where
  state : BoardState
  switchOn : Bool
  sagging : Bool
  level : Nat
  sagRun : Nat
  deadRun : Nat
  mode : SamplingMode
  due : Option Word
  staged : Staged
  ports : Vector PortPower 16
  waitingPower : BitVec 16
  deriving DecidableEq, Repr

/-- A board after reset (R142). -/
def Board.reset (straps : Straps) (b : LaneIx) : Board :=
  { state := if b.val ≤ straps.lanes.toNat then .off else .unfitted, switchOn := false,
    sagging := false, level := 0, sagRun := 0, deadRun := 0, mode := .none, due := none,
    staged := .idle, ports := Vector.replicate 16 .off, waitingPower := 0 }

/-- The shared converter (R141): the board under conversion with the time since its start, and the
last board converted. -/
structure Converter where
  busy : Option (LaneIx × Nat)
  last : LaneIx
  deriving DecidableEq, Repr

/-! ### Outcomes (chapter 8) -/

/-- Verdicts (R183). -/
inductive Verdict where
  | passed
  | failed
  | rejected
  deriving DecidableEq, Repr

/-- A captured outcome record, less its sequence (R160). -/
structure OutcomeRecord where
  slot : SlotIx
  job : Option JobIx
  passNo : Nat
  verdict : Verdict
  reason : Reason
  vendor : Half
  product : Half
  serial : List Byte
  truncated : Bool
  claimed : Nat
  honest : Nat
  written : Nat
  verified : Nat
  firstBad : Option Nat
  stickErrors : Nat
  notReady : Nat
  duration : Word
  deriving DecidableEq, Repr

/-- A record in the pending queue; `unjudged` marks one whose waiting test is owed to the next enable
(R157, R162). -/
structure Queued where
  outcome : OutcomeRecord
  unjudged : Bool
  deriving DecidableEq, Repr

/-- The outcome unit (R156). -/
structure OutcomeUnit where
  queue : List Queued
  written : Word
  held : Word
  offset : Nat
  capacity : Nat
  writing : Option OutcomeRecord
  deriving DecidableEq, Repr

/-- The outcome unit after reset (R156). -/
def OutcomeUnit.reset : OutcomeUnit :=
  { queue := [], written := 0, held := 0, offset := 0, capacity := 0, writing := none }

/-! ### Window port, command unit, settings (chapter 9) -/

/-- Engine states (R164): ENABLE reads 0 in `notEnabled` and 1 in the others. -/
inductive Engine where
  | notEnabled
  | enabled
  | quiescing
  deriving DecidableEq, Repr

/-- The reads of an exchange scan, in order (R170). -/
inductive ScanRead where
  | commandCount
  | publish (job : JobIx)
  | consumed
  deriving DecidableEq, Repr

/-- Scan state (R170); `ending` is a scan cut short by ENABLE = 0 whose read is still in flight. -/
inductive Scan where
  | idle
  | inFlight (next : ScanRead) (pending : Bool)
  | ending (next : ScanRead) (pending : Bool)
  deriving DecidableEq, Repr

/-- The settings, less the outcome list, which the outcome unit holds (R174). -/
structure Settings where
  scanInterval : Nat
  dataTimeout : Nat
  retryLimit : Nat
  errorBudget : Nat
  settleTime : Nat
  groupSize : Nat
  groupInterval : Nat
  sagLevel : Nat
  indicators : Bool
  deriving DecidableEq, Repr

/-- The default settings (R174). -/
def Settings.default : Settings :=
  { scanInterval := 10, dataTimeout := 2000, retryLimit := 3, errorBudget := 16, settleTime := 200,
    groupSize := 4, groupInterval := 100, sagLevel := 5, indicators := true }

/-- A clamped settings snapshot with its outcome list and clamp mask (R174). -/
structure SettingsSnapshot where
  settings : Settings
  capacity : Nat
  offset : Nat
  mask : Nat
  deriving DecidableEq, Repr

/-- The snapshot of a command cell (R172, R180). -/
structure CommandCell where
  count : Word
  code : Half
  job : Byte
  slot : Half
  slotCount : Half
  param0 : Word
  param1 : Word
  param2 : Word
  param3 : Word
  deriving DecidableEq, Repr

/-- What the command unit is doing (R172). -/
inductive CommandUnit where
  | idle
  | readingCell
  | executing (cell : CommandCell)
  | readingJobRecord (cell : CommandCell) (job : JobIx) (offset : Nat)
  | readingExtents (cell : CommandCell) (job : JobIx) (record : JobRecord) (listOffset count : Nat)
      (entries : List Extent)
  | readingSettings (cell : CommandCell)
  | judgingList (cell : CommandCell) (snapshot : SettingsSnapshot)
  | readingFilter (cell : CommandCell) (offset : Nat)
  deriving DecidableEq, Repr

/-- Result codes (R173). -/
inductive ResultCode where
  | done
  | doneClamped
  | unknownCommand
  | badJobNumber
  | badSlot
  | wrongState
  | badRecord
  | areaConflict
  | slotBusy
  | noSlots
  | railLow
  | notFitted
  deriving DecidableEq, Repr

/-- Fault codes (R176). -/
inductive FaultCode where
  | none
  | publishBackwards
  | publishOverrun
  | consumedAhead
  | areaRead
  deriving DecidableEq, Repr

/-- The registers and tables of the ten blocks. -/
structure Part where
  straps : Straps
  time : Word
  engine : Engine
  scan : Scan
  scanTimer : Nat
  refused : Option Word
  latestCount : Word
  doneCount : Word
  resultCode : ResultCode
  result1 : Word
  result2 : Word
  command : CommandUnit
  settings : Settings
  faultCode : FaultCode
  faultDetail : Nat
  jobs : Vector Job 4
  intake : Option Intake
  slots : Vector Slot 256
  slotMap : Vector (Option JobIx) 256
  filter : AdmissionFilter
  probeSequence : Word
  lanes : Vector Lane 16
  boards : Vector Board 16
  converter : Converter
  outcomes : OutcomeUnit
  deriving DecidableEq, Repr

/-- The part after a reset that leaves these straps captured (R2, R26, R54, R64, R81, R117, R142,
R156, R167, R174, R176). R176 gives the fault detail word the code NONE and says nothing of its byte 1: 0
is a DESIGN CHOICE (log entry 43, unsafe). -/
def Part.reset (straps : Straps) : Part :=
  { straps := straps, time := 0, engine := .notEnabled, scan := .idle, scanTimer := 0,
    refused := none, latestCount := 0, doneCount := 0, resultCode := .done, result1 := 0,
    result2 := 0, command := .idle, settings := .default, faultCode := .none, faultDetail := 0,
    jobs := Vector.replicate 4 .reset, intake := none, slots := Vector.replicate 256 .reset,
    slotMap := Vector.replicate 256 none, filter := .reset, probeSequence := 0,
    lanes := Vector.ofFn (Lane.reset straps), boards := Vector.ofFn (Board.reset straps),
    converter := { busy := none, last := 15 }, outcomes := .reset }

/-- The cause registers (R175) and the causes that wait for the next enable (R165). -/
structure Port where
  cause : BitVec 11
  causeEnable : BitVec 11
  deferred : BitVec 11
  deriving DecidableEq, Repr

/-- The cause registers after reset (R167). -/
def Port.reset : Port := { cause := 0, causeEnable := 0, deferred := 0 }

/-- The image memory: (offset, byte) pairs, offsets strictly rising, none equal to the unlisted
byte. -/
abbrev Memory := List Host.Cell

/-- The state: the part, its cause registers, the image memory, and the commands that wait, first in
first out. -/
structure State where
  part : Part
  port : Port
  mem : Memory
  pending : List Instr
  deriving DecidableEq, Repr

/-- The state after a reset that leaves these straps captured and this memory (R167). -/
def State.resetWith (straps : Straps) (mem : Memory) (pending : List Instr) : State :=
  { part := .reset straps, port := .reset, mem := mem, pending := pending }

/-- The machine after power-on reset (R167), with the straps of log entry 5 and the memory of log
entry 4. -/
def State.reset : State :=
  .resetWith { lanes := Config.resetLaneStrap, memory1GiB := Config.resetMemoryStrap,
               reference40MHz := Config.resetReferenceStrap } [] []

end Sys2Proof.Machine
end

