-- ==== Sys2Proof/Machine/Memory.lean ====
section
/-! DEFINITION. The image memory: one byte read and written, its canonical form, and wider accesses
built from bytes in little-endian order (R177). -/

namespace Sys2Proof.Machine

/-- The byte at an offset (log entry 4 for one that nothing has written). -/
def Memory.read : Memory → Nat → Byte
  | [], _ => Config.unlistedByte
  | (a, b) :: rest, x => if x = a then b else Memory.read rest x

/-- The memory with one byte replaced, in canonical form. -/
def Memory.write : Memory → Nat → Byte → Memory
  | [], x, v => if v = Config.unlistedByte then [] else [(x, v)]
  | (a, b) :: rest, x, v =>
    if x < a then
      if v = Config.unlistedByte then (a, b) :: rest else (x, v) :: (a, b) :: rest
    else if x = a then
      if v = Config.unlistedByte then rest else (x, v) :: rest
    else (a, b) :: Memory.write rest x v

/-- The canonical form: offsets strictly rising, no byte equal to the unlisted one. -/
abbrev Memory.wf (m : Memory) : Prop :=
  List.Pairwise (fun x y => x.1 < y.1) m ∧ ∀ c ∈ m, c.2 ≠ Config.unlistedByte

/-- The bytes of a run written from an offset upward. -/
def Memory.writeBytes : Memory → Nat → List Byte → Memory
  | m, _, [] => m
  | m, a, b :: rest => Memory.writeBytes (Memory.write m a b) (a + 1) rest

/-- Host writes applied in issue order (R169). -/
def Memory.apply (m : Memory) (ws : List Host.Cell) : Memory :=
  ws.foldl (fun m w => Memory.write m w.1 w.2) m

/-- Unit writes of the part applied in order (R178). -/
def Memory.applyUnits (m : Memory) (ws : List (Nat × List Byte)) : Memory :=
  ws.foldl (fun m w => Memory.writeBytes m w.1 w.2) m

/-- The `n` bytes from an offset upward. -/
def Memory.readBytes (m : Memory) (a : Nat) : Nat → List Byte
  | 0 => []
  | n + 1 => Memory.read m a :: Memory.readBytes m (a + 1) n

/-- The low `n` bytes of a number, least significant first (R177). -/
def leBytes : Nat → Nat → List Byte
  | 0, _ => []
  | n + 1, v => BitVec.ofNat 8 v :: leBytes n (v / 256)

/-- The number that bytes spell, least significant first (R177). -/
def leValue : List Byte → Nat
  | [] => 0
  | b :: rest => b.toNat + 256 * leValue rest

/-- A little-endian number of `n` bytes at an offset. -/
def Memory.value (m : Memory) (a n : Nat) : Nat := leValue (Memory.readBytes m a n)

/-- A two-byte field at an offset. -/
def Memory.half (m : Memory) (a : Nat) : Half := BitVec.ofNat 16 (Memory.value m a 2)

/-- A four-byte field at an offset. -/
def Memory.word (m : Memory) (a : Nat) : Word := BitVec.ofNat 32 (Memory.value m a 4)

/-- The size of the fitted image memory in bytes (R9). -/
def windowSize (s : Straps) : Nat := if s.memory1GiB then 1073741824 else 536870912

/-- Every host write lies in the fitted image memory. -/
def hostWritesFit (straps : Straps) (ws : List Host.Cell) : Bool :=
  ws.all (fun c => decide (c.1 < windowSize straps))

end Sys2Proof.Machine
end

