-- ==== Sys2Proof/Machine/Crc.lean ====
section
/-! DEFINITION. The CRC-32 of the part (R36), and its runs over window bytes and repeated bytes. -/

namespace Sys2Proof.Machine

/-- The initial value of a CRC (R36). -/
def crcInit : Word := 0xFFFFFFFF

/-- The final XOR of a CRC (R36). -/
def crcFinal (c : Word) : Word := c ^^^ 0xFFFFFFFF

/-- One bit, least significant first, under the reflected polynomial (R36). -/
def crcBit (c : Word) : Word := if c.getLsbD 0 then (c >>> 1) ^^^ 0xEDB88320 else c >>> 1

/-- One byte (R36). -/
def crcByte (c : Word) (b : Byte) : Word :=
  let x := c ^^^ b.setWidth 32
  crcBit (crcBit (crcBit (crcBit (crcBit (crcBit (crcBit (crcBit x)))))))

/-- A sequence of bytes continued from a CRC value (R36). -/
def crcBytes (c : Word) (bs : List Byte) : Word := bs.foldl crcByte c

/-- The CRC-32 of a whole sequence (R36). -/
def crc32 (bs : List Byte) : Word := crcFinal (crcBytes crcInit bs)

/-- `n` window bytes from an offset, continued from a CRC value (R35). -/
def crcWindow (m : Memory) : Nat → Nat → Word → Word
  | 0, _, c => c
  | n + 1, a, c => crcWindow m n (a + 1) (crcByte c (Memory.read m a))

/-- `n` copies of one byte, continued from a CRC value (R35). -/
def crcRepeat (b : Byte) : Nat → Word → Word
  | 0, c => c
  | n + 1, c => crcRepeat b n (crcByte c b)

end Sys2Proof.Machine
end

