-- ==== Sys2Proof/Machine/Geometry.lean ====
section
/-! DEFINITION. Image geometry: chunks and their classes (R5, R6), places in the window (R7, R8),
runs of written blocks (R93), the settling of cursors (R92, R99), and the walk of an intake over a
chunk (R35). Block numbers and counts are plain numbers. -/

namespace Sys2Proof.Machine

/-- The end of an extent (R4). -/
def Extent.stop (e : Extent) : Nat := e.first + e.count

/-- The end of the last extent: B (R5). -/
def imageSpan : List Extent → Nat
  | [] => 0
  | [e] => e.stop
  | _ :: rest => imageSpan rest

/-- The written-block total: Wb (R5). -/
def writtenTotal (es : List Extent) : Nat := (es.map (·.count)).sum

/-- The blocks of [lo, hi) that extents cover. -/
def writtenWithin (es : List Extent) (lo hi : Nat) : Nat :=
  (es.map (fun e => min hi e.stop - max lo e.first)).sum

/-- The lowest covered block of [lo, hi) with its extent; the extents rise (R4). -/
def firstWritten (lo hi : Nat) : List Extent → Option (Nat × Extent)
  | [] => none
  | e :: rest =>
    if max lo e.first < min hi e.stop then some (max lo e.first, e) else firstWritten lo hi rest

/-- Does an extent cover this block? (R87) -/
def inExtents (es : List Extent) (a : Nat) : Bool :=
  es.any (fun e => decide (e.first ≤ a ∧ a < e.stop))

/-- The first block of chunk n (R5). -/
def Job.chunkStart (j : Job) (n : Nat) : Nat := n * j.chunkSize

/-- One past the last block of chunk n (R5). -/
def Job.chunkStop (j : Job) (n : Nat) : Nat := min ((n + 1) * j.chunkSize) j.span

/-- The class of chunk n (R6). -/
def Job.chunkClass (j : Job) (n : Nat) : ChunkClass :=
  let reach := j.extents.filter
    (fun e => decide (max (j.chunkStart n) e.first < min (j.chunkStop n) e.stop))
  if reach.any (fun e => decide (e.kind = .copy)) then .data
  else if reach.isEmpty then .void else .pattern

/-- The window offset of block a of chunk n in its cell (R7). -/
def Job.blockOffset (j : Job) (n a : Nat) : Nat :=
  j.record.stagingOffset + (n % j.record.depth) * j.chunkSize * 512 + (a - j.chunkStart n) * 512

/-- The window offset of digest entry n (R8). -/
def Job.digestEntry (j : Job) (n : Nat) : Nat := j.record.digestOffset + 8 * n

/-- The bytes of the staging area (R7). -/
def stagingBytes (chunkSize depth : Nat) : Nat := depth * chunkSize * 512

/-- The bytes reserved for a digest list of N entries (R8). -/
def digestBytes (n : Nat) : Nat := (n * 8 + 4095) / 4096 * 4096

/-- A run of written blocks (R93). -/
structure Run where
  first : Nat
  count : Nat
  kind : ExtentKind
  deriving DecidableEq, Repr

/-- The run at cursor (n, o): from the first written block at or after it to the earliest of 128
blocks, the extent's end and the chunk's end (R93). -/
def Job.runAt (j : Job) (n o : Nat) : Option Run :=
  match firstWritten (j.chunkStart n + o) (j.chunkStop n) j.extents with
  | none => none
  | some (b, e) =>
    some { first := b, count := min (b + 128) (min e.stop (j.chunkStop n)) - b, kind := e.kind }

/-- A written block of chunk n lies at or after offset o. -/
def Job.moreIn (j : Job) (n o : Nat) : Bool :=
  (firstWritten (j.chunkStart n + o) (j.chunkStop n) j.extents).isSome

/-- The settling steps; a VOID chunk is stepped over when `skipVoid` says so (R92, R99). -/
def Job.settleSteps (j : Job) (skipVoid : Nat → Bool) : Nat → Nat → Nat → Nat × Nat
  | 0, n, o => (n, o)
  | fuel + 1, n, o =>
    if j.chunks ≤ n then (n, 0)
    else if j.chunkClass n = .void then
      if skipVoid n then j.settleSteps skipVoid fuel (n + 1) 0 else (n, o)
    else if j.moreIn n o then (n, o)
    else j.settleSteps skipVoid fuel (n + 1) 0

/-- A write cursor settled: VOID chunks are stepped over below I (R92). -/
def Job.settleWrite (j : Job) (n o : Nat) : Nat × Nat :=
  j.settleSteps (fun c => decide (c < j.i)) (j.chunks - n + 1) n o

/-- A verify cursor settled: VOID chunks are always stepped over (R99). -/
def Job.settleVerify (j : Job) (n o : Nat) : Nat × Nat :=
  j.settleSteps (fun _ => true) (j.chunks - n + 1) n o

/-- The CRC walk over the written blocks of chunk n, extent by extent (R35). -/
def Job.walkCrc (j : Job) (m : Memory) (n : Nat) (c : Word) : Word :=
  j.extents.foldl (fun c e =>
    let lo := max (j.chunkStart n) e.first
    let hi := min (j.chunkStop n) e.stop
    if lo < hi then
      match e.kind with
      | .copy => crcWindow m ((hi - lo) * 512) (j.blockOffset n lo) c
      | .fill => crcRepeat j.record.fill ((hi - lo) * 512) c
    else c) c

/-- The digest CRC of chunk n, the accumulation starting from `init` (R35). -/
def Job.chunkCrc (j : Job) (m : Memory) (n : Nat) (init : Word) : Word :=
  if j.chunkClass n = .void then 0 else crcFinal (j.walkCrc m n init)

/-! ### Probe points (chapter 4) -/

/-- The ladder exponent g for a claimed capacity of at least 16 (R82). -/
def ladderExponent (claimed : Nat) : Nat := Nat.log2 (claimed / 16)

/-- The sixteen ladder points from point k on (R82). -/
def ladderPoints (g : Nat) : List Nat :=
  (List.range 16).map (fun k => (k + 1) * 2 ^ g - 1)

/-- The probe points of a stick with last block L, ascending (R82). -/
def probePoints (mode : ProbeMode) (last : Nat) : List Nat :=
  match mode with
  | .off => []
  | .quick => [last]
  | .full =>
    if last + 1 < 16 then [last]
    else
      let g := ladderExponent (last + 1)
      if last = 16 * 2 ^ g - 1 then ladderPoints g else ladderPoints g ++ [last]

/-- The first point index at or after `k` whose block lies in no extent (R87). -/
def nextScrub (es : List Extent) (points : List Nat) (k : Nat) : Option Nat :=
  (List.range points.length).find? (fun i => decide (k ≤ i) && !inExtents es (points.getD i 0))

/-- The first sixteen bytes of a probe signature, whose remainder is zero (R83, R182). -/
def signatureHead (address : Nat) (slot : SlotIx) (nonce : Word) : List Byte :=
  leBytes 4 Config.signatureMarker.toNat ++ leBytes 4 address ++ leBytes 4 slot.val ++
    leBytes 4 nonce.toNat

/-- The 512-byte signature block of a point (R83, R182). -/
def signatureBlock (address : Nat) (slot : SlotIx) (nonce : Word) : List Byte :=
  signatureHead address slot nonce ++ List.replicate 496 0

/-- A block read back from a point is intact: marker, address, slot and nonce agree (R83). -/
def signatureIntact (address : Nat) (slot : SlotIx) (nonce : Word) (block : List Byte) : Bool :=
  decide (block.take 16 = signatureHead address slot nonce)

end Sys2Proof.Machine
end

