-- ==== Sys2Proof/Machine/Operands.lean ====
section
/-! DEFINITION. Every operand form of the commands: the numeric codes (R183), the host records read
from the window (R180, R181), and the register and record images the part shows (R179, R180, R182). -/

namespace Sys2Proof.Machine

/-! ### Numbering (00 Conventions, R124) -/

/-- The lane, and so the board, of a slot. -/
def laneOf (i : SlotIx) : LaneIx := ⟨i.val / 16, by have := i.isLt; omega⟩

/-- The port of a slot on its board. -/
def portOf (i : SlotIx) : PortIx := ⟨i.val % 16, by omega⟩

/-- The slot on a port of a lane. -/
def slotOf (l : LaneIx) (p : PortIx) : SlotIx :=
  ⟨l.val * 16 + p.val, by have := l.isLt; have := p.isLt; omega⟩

/-- All slots, ascending. -/
def allSlots : List SlotIx := List.finRange 256

/-- All ports of a board, ascending. -/
def allPorts : List PortIx := List.finRange 16

/-- All lanes, ascending; the same list is all boards. -/
def allLanes : List LaneIx := List.finRange 16

/-- All jobs, ascending. -/
def allJobs : List JobIx := List.finRange 4

/-- The slots of a lane in ascending port order. -/
def laneSlots (l : LaneIx) : List SlotIx := allPorts.map (slotOf l)

/-- The upper hub port, 1 to 4, behind which a port hangs (R124). -/
def upperHubPort (p : PortIx) : Nat := p.val / 4 + 1

/-- The lower hub port, 1 to 4, of a port (R124). -/
def lowerHubPort (p : PortIx) : Nat := p.val % 4 + 1

/-- The bus address of the upper hub (R116). -/
def upperHubAddress : Nat := 1

/-- The bus address of the lower hub on an upper hub port (R116). -/
def lowerHubAddress (upper : Nat) : Nat := upperHubAddress + upper

/-- The bus address a lane keeps for the stick on a port (R116). -/
def stickAddress (p : PortIx) : Nat := 6 + p.val

/-- A number that names a slot (R73). -/
def slotOfNat (n : Nat) : Option SlotIx := if h : n < 256 then some ⟨n, h⟩ else none

/-- A number that names a board (R154). -/
def boardOfNat (n : Nat) : Option LaneIx := if h : n < 16 then some ⟨n, h⟩ else none

/-- A job byte that names a job (R180). -/
def jobOfByte (b : Byte) : Option JobIx := if h : b.toNat < 4 then some ⟨b.toNat, h⟩ else none

/-! ### Codes (R183) -/

/-- Job state codes. -/
def JobState.code : JobState → Nat
  | .vacant => 0
  | .standby => 1
  | .running => 2
  | .pausing => 3
  | .paused => 4
  | .closing => 5
  | .aborting => 6
  | .ended => 7

/-- The code of the remembered state is that of the job state it names. -/
def Remembered.code : Remembered → Nat
  | .standby => 1
  | .running => 2

/-- The job state a remembered state names (R20). -/
def Remembered.jobState : Remembered → JobState
  | .standby => .standby
  | .running => .running

/-- Slot state codes. -/
def SlotState.code : SlotState → Nat
  | .empty => 0
  | .settling => 1
  | .enumerating => 2
  | .idle => 3
  | .sizing => 4
  | .probing => 5
  | .ready => 6
  | .writing => 7
  | .deferred => 8
  | .verifying => 9
  | .passed => 10
  | .failed => 11
  | .rejected => 12

/-- Board state codes. -/
def BoardState.code : BoardState → Nat
  | .unfitted => 0
  | .off => 1
  | .ramping => 2
  | .on => 3
  | .lost => 4

/-- Lane state codes. -/
def LaneState.code : LaneState → Nat
  | .absent => 0
  | .down => 1
  | .bringingUp => 2
  | .up => 3
  | .resetting => 4

/-- Reason codes. -/
def Reason.code : Reason → Nat
  | .none => 0
  | .removed => 1
  | .enumFailed => 2
  | .unsupported => 3
  | .blockSize => 4
  | .tooSmall => 5
  | .fakeCapacity => 6
  | .writeProtect => 7
  | .notReady => 8
  | .writeError => 9
  | .readError => 10
  | .unresponsive => 11
  | .errorBudget => 12
  | .verifyMismatch => 13
  | .laggard => 14
  | .aborted => 15
  | .jobClosed => 16
  | .imageChanged => 17
  | .overcurrent => 18
  | .railLost => 19
  | .laneReset => 20
  | .operator => 21
  | .filtered => 22

/-- The failure reason an abort reason gives its members (R22). -/
def AbortReason.reason : AbortReason → Reason
  | .aborted => .aborted
  | .imageChanged => .imageChanged

/-- The pending end an abort reason gives a member (R72). -/
def AbortReason.pendingEnd : AbortReason → PendingEnd
  | .aborted => .aborted
  | .imageChanged => .imageChanged

/-- Last job fault detail codes: 0, 15 and 17. -/
def jobFaultCode : Option AbortReason → Nat
  | none => 0
  | some r => r.reason.code

/-- Lane fault codes. -/
def LaneFaultKind.code : LaneFaultKind → Nat
  | .none => 0
  | .rootPort => 1
  | .upperHub => 2
  | .lowerHub => 3
  | .hubLost => 4
  | .health => 5

/-- Verdict codes. -/
def Verdict.code : Verdict → Nat
  | .passed => 1
  | .failed => 2
  | .rejected => 3

/-- Digest class codes. -/
def ChunkClass.code : ChunkClass → Nat
  | .data => 1
  | .pattern => 2
  | .void => 3

/-- Result codes. -/
def ResultCode.code : ResultCode → Nat
  | .done => 0
  | .doneClamped => 1
  | .unknownCommand => 2
  | .badJobNumber => 3
  | .badSlot => 4
  | .wrongState => 5
  | .badRecord => 6
  | .areaConflict => 7
  | .slotBusy => 8
  | .noSlots => 9
  | .railLow => 10
  | .notFitted => 11

/-- Fault codes. -/
def FaultCode.code : FaultCode → Nat
  | .none => 0
  | .publishBackwards => 1
  | .publishOverrun => 2
  | .consumedAhead => 3
  | .areaRead => 4

/-- BAD_RECORD details. -/
inductive Detail where
  | chunkSize
  | windowDepth
  | extentCount
  | extentOrder
  | extentEmpty
  | extentKind
  | imageSpan
  | areaRange
  | policy
  | priority
  | verifyMode
  | probeMode
  | start
  | indicatorMode
  | areaRead
  deriving DecidableEq, Repr

/-- BAD_RECORD detail codes. -/
def Detail.code : Detail → Word
  | .chunkSize => 1
  | .windowDepth => 2
  | .extentCount => 3
  | .extentOrder => 4
  | .extentEmpty => 5
  | .extentKind => 6
  | .imageSpan => 7
  | .areaRange => 8
  | .policy => 9
  | .priority => 10
  | .verifyMode => 11
  | .probeMode => 12
  | .start => 13
  | .indicatorMode => 14
  | .areaRead => 15

/-- Command codes. -/
def codeApplySettings : Half := 0x01
/-- Command code of DEFINE_JOB. -/
def codeDefineJob : Half := 0x10
/-- Command code of SET_PRIORITY. -/
def codeSetPriority : Half := 0x11
/-- Command code of PAUSE_JOB. -/
def codePauseJob : Half := 0x12
/-- Command code of RESUME_JOB. -/
def codeResumeJob : Half := 0x13
/-- Command code of CLOSE_JOB. -/
def codeCloseJob : Half := 0x14
/-- Command code of ABORT_JOB. -/
def codeAbortJob : Half := 0x15
/-- Command code of RELEASE_JOB. -/
def codeReleaseJob : Half := 0x16
/-- Command code of START_PASS. -/
def codeStartPass : Half := 0x20
/-- Command code of ASSIGN_SLOTS. -/
def codeAssignSlots : Half := 0x30
/-- Command code of SET_FILTER. -/
def codeSetFilter : Half := 0x31
/-- Command code of EJECT_SLOT. -/
def codeEjectSlot : Half := 0x32
/-- Command code of SET_INDICATOR. -/
def codeSetIndicator : Half := 0x33
/-- Command code of RESTORE_BOARD. -/
def codeRestoreBoard : Half := 0x40
/-- Command code of PORT_RESTORE. -/
def codePortRestore : Half := 0x41

/-- The codes that name a command (R173, R183). -/
def commandCodes : List Half :=
  [codeApplySettings, codeDefineJob, codeSetPriority, codePauseJob, codeResumeJob, codeCloseJob,
   codeAbortJob, codeReleaseJob, codeStartPass, codeAssignSlots, codeSetFilter, codeEjectSlot,
   codeSetIndicator, codeRestoreBoard, codePortRestore]

/-- Lag policy by code. -/
def lagPolicyOf : Nat → Option LagPolicy
  | 0 => some .wait
  | 1 => some .defer
  | 2 => some .fail
  | _ => none

/-- Verify mode by code. -/
def verifyModeOf : Nat → Option VerifyMode
  | 0 => some .none
  | 1 => some .digest
  | _ => none

/-- Probe mode by code. -/
def probeModeOf : Nat → Option ProbeMode
  | 0 => some .off
  | 1 => some .quick
  | 2 => some .full
  | _ => none

/-- Extent kind by code. -/
def extentKindOf : Nat → Option ExtentKind
  | 1 => some .copy
  | 2 => some .fill
  | _ => none

/-- Indicator mode by code. -/
def overrideOf : Nat → Option Override
  | 0 => some .auto
  | 1 => some .off
  | 2 => some .green
  | 3 => some .amber
  | 4 => some .blinkGreen
  | 5 => some .blinkAmber
  | _ => none

/-! ### Host structures in the window (R180, R181) -/

/-- The offset of the publish field of a job. -/
def publishOffset (j : JobIx) : Nat := 0x020 + 8 * j.val

/-- The offset of the outcome consumed count. -/
def consumedOffset : Nat := 0x040

/-- The offset of the settings record. -/
def settingsOffset : Nat := 0x080

/-- The 32-byte command cell at offset 0. -/
def readCell (m : Memory) : CommandCell :=
  { count := m.word 0x00, code := m.half 0x04, job := m.read 0x06, slot := m.half 0x08,
    slotCount := m.half 0x0A, param0 := m.word 0x10, param1 := m.word 0x14, param2 := m.word 0x18,
    param3 := m.word 0x1C }

/-- A publish field: pass tag and value (R180), from one 8-byte read (R178). -/
def readPublish (m : Memory) (j : JobIx) : Half × Word :=
  (m.half (publishOffset j), m.word (publishOffset j + 4))

/-- A job record as the host wrote it (R181). -/
structure RawRecord where
  extentOffset : Nat
  extentCount : Nat
  stagingOffset : Nat
  digestOffset : Nat
  floor : Nat
  lagHold : Nat
  k : Nat
  depth : Nat
  policy : Nat
  verify : Nat
  probe : Nat
  fill : Byte
  priority : Nat
  deriving DecidableEq, Repr

/-- The 64-byte job record at an offset. -/
def readRecord (m : Memory) (a : Nat) : RawRecord :=
  { extentOffset := m.value a 4, extentCount := m.value (a + 0x04) 4,
    stagingOffset := m.value (a + 0x08) 4, digestOffset := m.value (a + 0x0C) 4,
    floor := m.value (a + 0x10) 4, lagHold := m.value (a + 0x14) 2, k := m.value (a + 0x16) 1,
    depth := m.value (a + 0x17) 1, policy := m.value (a + 0x18) 1, verify := m.value (a + 0x19) 1,
    probe := m.value (a + 0x1A) 1, fill := m.read (a + 0x1B), priority := m.value (a + 0x1C) 1 }

/-- An extent entry as the host wrote it: first block, count, kind code (R181). -/
def readExtent (m : Memory) (a : Nat) : Nat × Nat × Nat :=
  (m.value a 4, m.value (a + 4) 4, m.value (a + 8) 1)

/-- The 72-byte filter record at an offset (R64, R181): a valid flag other than 0 is valid, an action
other than 0 is REJECT. -/
def readFilterEntry (m : Memory) (a : Nat) : FilterEntry :=
  { valid := decide (m.value a 1 ≠ 0), reject := decide (m.value (a + 1) 1 ≠ 0),
    vendor := m.half (a + 4), product := m.half (a + 6) }

/-- The filter record at an offset (R181). -/
def readFilter (m : Memory) (a : Nat) : AdmissionFilter :=
  { entries := #v[readFilterEntry m a, readFilterEntry m (a + 8), readFilterEntry m (a + 16),
      readFilterEntry m (a + 24), readFilterEntry m (a + 32), readFilterEntry m (a + 40),
      readFilterEntry m (a + 48), readFilterEntry m (a + 56)],
    mask := BitVec.ofNat 64 (m.value (a + 0x40) 8) }

/-- A value clamped to a range (R174). -/
def clamp (v lo hi : Nat) : Nat := if v < lo then lo else if hi < v then hi else v

/-- The clamped outcome list capacity: 0, or 16 to 4,096 (R174). -/
def clampCapacity (v : Nat) : Nat := if v = 0 then 0 else clamp v 16 4096

/-- The mask bit of a setting whose value changed by clamping (R174). -/
def clampBit (bit v clamped : Nat) : Nat := if v = clamped then 0 else 2 ^ bit

/-- The settings record, clamped, with its clamp mask (R174). -/
def readSettings (m : Memory) : SettingsSnapshot :=
  let raw := fun o => m.value (settingsOffset + o) 4
  let scanInterval := clamp (raw 0x00) 0 1000
  let dataTimeout := clamp (raw 0x04) 100 10000
  let retryLimit := clamp (raw 0x08) 0 7
  let errorBudget := clamp (raw 0x0C) 1 255
  let settleTime := clamp (raw 0x10) 16 1024
  let groupSize := clamp (raw 0x14) 1 16
  let groupInterval := clamp (raw 0x18) 10 1000
  let sagLevel := clamp (raw 0x1C) 1 13
  let indicators := clamp (raw 0x20) 0 1
  let capacity := clampCapacity (raw 0x24)
  { settings := { scanInterval, dataTimeout, retryLimit, errorBudget, settleTime, groupSize,
                  groupInterval, sagLevel, indicators := decide (indicators = 1) },
    capacity := capacity,
    offset := if capacity = 0 then 0 else raw 0x28,
    mask := clampBit 0 (raw 0x00) scanInterval + clampBit 1 (raw 0x04) dataTimeout +
      clampBit 2 (raw 0x08) retryLimit + clampBit 3 (raw 0x0C) errorBudget +
      clampBit 4 (raw 0x10) settleTime + clampBit 5 (raw 0x14) groupSize +
      clampBit 6 (raw 0x18) groupInterval + clampBit 7 (raw 0x1C) sagLevel +
      clampBit 8 (raw 0x20) indicators + clampBit 9 (raw 0x24) capacity }

/-! ### Areas (R9 to R12) -/

/-- An area offset is well placed: 4 KiB aligned, 4096 or above, its bytes within the fitted image
memory (R9, R10, R174). -/
def areaFits (straps : Straps) (offset bytes : Nat) : Bool :=
  decide (offset % 4096 = 0) && decide (4096 ≤ offset) &&
    decide (offset + bytes ≤ windowSize straps)

/-- Two areas share at least one byte (R12). -/
def overlaps (a an b bn : Nat) : Bool :=
  decide (max a b < min (a + an) (b + bn))

/-! ### Images the part shows (R179, R180, R182) -/

/-- The job byte of a job or of none (R177). -/
def jobByte : Option JobIx → Nat
  | none => 0xFF
  | some j => j.val

/-- A chunk field that may hold no chunk (R177). -/
def chunkField : Option Nat → Nat
  | none => 0xFFFFFFFF
  | some n => n

/-- The identity register (R163, R179). -/
def identityRegister (s : Straps) : Word :=
  BitVec.ofNat 32 (Config.partCode * 65536 + Config.revision * 256 + s.lanes.toNat * 16 +
    (if s.memory1GiB then 8 else 0) + (if s.reference40MHz then 4 else 0))

/-- The set of LOCKED ports as bits (R180). -/
def lockedSet (b : Board) : Nat :=
  (allPorts.map (fun p => if b.ports.get p = .locked then 2 ^ p.val else 0)).sum

/-- A board status entry (R180). -/
def boardEntry (b : Board) : List Byte :=
  leBytes 1 b.state.code ++ leBytes 1 (if b.sagging then 1 else 0) ++ leBytes 1 b.level ++
    leBytes 1 0 ++ leBytes 2 (lockedSet b) ++ leBytes 2 0

/-- A lane status entry (R180). -/
def laneEntry (l : Lane) : List Byte :=
  leBytes 1 l.state.code ++ leBytes 1 l.fault.kind.code ++ leBytes 1 l.fault.hubPort ++
    leBytes 1 0 ++ leBytes 2 l.resets ++ leBytes 2 0

/-- A slot mirror entry (R76, R180). -/
def mirrorEntry (s : Slot) : List Byte :=
  leBytes 1 s.state.code ++ leBytes 1 (jobByte s.member) ++ leBytes 2 s.progress ++
    leBytes 1 s.reason.code ++ leBytes 3 0

/-- A digest entry (R182). -/
def digestBytesOf (crc : Word) (c : ChunkClass) : List Byte :=
  leBytes 4 crc.toNat ++ leBytes 1 c.code ++ leBytes 3 0

/-- The serial field of an outcome record: the characters, then zeros to 32 bytes (R160). -/
def serialField (s : List Byte) : List Byte := (s ++ List.replicate 32 0).take 32

/-- An outcome record with its sequence (R160, R182). -/
def outcomeBytes (sequence : Word) (o : OutcomeRecord) : List Byte :=
  leBytes 4 sequence.toNat ++ leBytes 1 o.slot.val ++ leBytes 1 (jobByte o.job) ++
    leBytes 2 o.passNo ++ leBytes 1 o.verdict.code ++ leBytes 1 o.reason.code ++
    leBytes 2 o.vendor.toNat ++ leBytes 2 o.product.toNat ++ leBytes 1 o.serial.length ++
    leBytes 1 (if o.truncated then 1 else 0) ++ serialField o.serial ++ leBytes 8 o.claimed ++
    leBytes 4 o.honest ++ leBytes 4 o.written ++ leBytes 4 o.verified ++
    leBytes 4 (chunkField o.firstBad) ++ leBytes 2 o.stickErrors ++ leBytes 1 o.notReady ++
    leBytes 1 0 ++ leBytes 4 o.duration.toNat ++ leBytes 48 0

end Sys2Proof.Machine
end

