-- ==== Sys2Proof/Machine/Flags.lean ====
section
/-! DEFINITION. The cause flags (R175, R179): their bits, the clear and enable writes, the interrupt
line, and what the host reads in the five registers. -/

namespace Sys2Proof.Machine

/-- The eleven causes (R175). -/
inductive Cause where
  | commandDone
  | slotChanged
  | jobChanged
  | chunkReleased
  | outcomeAdded
  | outcomeWaiting
  | rewindNeeded
  | railEvent
  | laneEvent
  | fault
  | quiesced
  deriving DecidableEq, Repr

/-- The bit of a cause, shared by cause and cause enable (R179). -/
def Cause.bit : Cause → BitVec 11
  | .commandDone => 0x001
  | .slotChanged => 0x002
  | .jobChanged => 0x004
  | .chunkReleased => 0x008
  | .outcomeAdded => 0x010
  | .outcomeWaiting => 0x020
  | .rewindNeeded => 0x040
  | .railEvent => 0x080
  | .laneEvent => 0x100
  | .fault => 0x200
  | .quiesced => 0x400

/-- A cause flag is set in the cause register. -/
def Port.has (p : Port) (c : Cause) : Prop := p.cause &&& c.bit = c.bit

/-- The interrupt line (R175). -/
def Port.interruptLine (p : Port) : Bool := decide (p.cause &&& p.causeEnable ≠ 0)

/-- A write-1-to-clear of the cause register; bits above 10 have no flag (R175, R179). -/
def Port.clearCauses (p : Port) (v : Word) : Port :=
  { p with cause := p.cause &&& ~~~(v.setWidth 11) }

/-- A write of the cause enable register; writes of bits above 10 are ignored (R179). -/
def Port.writeEnable (p : Port) (v : Word) : Port := { p with causeEnable := v.setWidth 11 }

/-- ENABLE as the control register reads it (R164). -/
def Part.enableReads (p : Part) : Bool := decide (p.engine ≠ .notEnabled)

/-- The command that a control write is: bit 0 is ENABLE, bit 1 SOFT_RESET, the rest is ignored (R164,
R179). -/
def controlCommand (v : Word) : Instr :=
  if v.getLsbD 1 then .softReset (v.getLsbD 0) else if v.getLsbD 0 then .enable else .quiesce

/-- The command that a write of the register window is (R163, R179); the host's window writes before an
attention write are that command's own operand (R169). -/
def registerCommand (offset : Nat) (v : Word) : Instr :=
  match offset with
  | 0x04 => controlCommand v
  | 0x08 => .attention v []
  | 0x0C => .causeClear v
  | 0x10 => .causeEnableWrite v
  | _ => .registerWrite offset v

/-- What a read of the register window at an offset gives (R163, R179). -/
def State.readRegister (s : State) (offset : Nat) : Option Word :=
  match offset with
  | 0x00 => some (identityRegister s.part.straps)
  | 0x04 => some (if s.part.enableReads then 1 else 0)
  | 0x08 => some 0
  | 0x0C => some (s.port.cause.setWidth 32)
  | 0x10 => some (s.port.causeEnable.setWidth 32)
  | _ => none

end Sys2Proof.Machine
end

