-- ==== Sys2Proof/Machine/Ops.lean ====
section
/-! DEFINITION. The shared operations of the blocks.

A command works on a `Work`: the part, and what the command hands to the window port, which makes
the window writes before it sets the causes (R169). Operations only mark which status entries are to
be written; `commit` writes each marked entry once, from the part as the command leaves it (R77,
R119, R141), and keeps back what a quiescing or quiescent engine may not report (R165, R166). -/

namespace Sys2Proof.Machine

/-- What a command hands to the window port. `writes` are unit writes made whatever the engine does, before
the status entries, and `last` those made after them; the marked entries are written, and `causes` raised,
only while the engine reports; `forced` job entries and `now` causes do not wait. -/
structure Out where
  writes : List (Nat × List Byte)
  last : List (Nat × List Byte)
  slots : List SlotIx
  jobs : List JobIx
  lanes : List LaneIx
  boards : List LaneIx
  forced : List JobIx
  causes : BitVec 11
  now : BitVec 11
  deriving DecidableEq, Repr

/-- Nothing to hand over. -/
def Out.none : Out :=
  { writes := [], last := [], slots := [], jobs := [], lanes := [], boards := [], forced := [], causes := 0,
    now := 0 }

/-- A command's working state; `before` holds the lanes as the command found them (R130). -/
structure Work where
  p : Part
  out : Out
  before : Vector Lane 16
  deriving DecidableEq, Repr

/-- The start of a command's work. -/
def Work.start (s : State) : Work := { p := s.part, out := .none, before := s.part.lanes }

/-! ### Reading and replacing units -/

/-- The record of a slot. -/
def Part.slot (p : Part) (i : SlotIx) : Slot := p.slots.get i

/-- The context of a job. -/
def Part.job (p : Part) (j : JobIx) : Job := p.jobs.get j

/-- A lane. -/
def Part.lane (p : Part) (l : LaneIx) : Lane := p.lanes.get l

/-- A board. -/
def Part.board (p : Part) (b : LaneIx) : Board := p.boards.get b

/-- The slot-to-job map entry of a slot (R53). -/
def Part.mapOf (p : Part) (i : SlotIx) : Option JobIx := p.slotMap.get i

/-- One slot record changed. -/
def Work.modSlot (w : Work) (i : SlotIx) (g : Slot → Slot) : Work :=
  { w with p := { w.p with slots := w.p.slots.set i.val (g (w.p.slot i)) i.isLt } }

/-- One job context changed. -/
def Work.modJob (w : Work) (j : JobIx) (g : Job → Job) : Work :=
  { w with p := { w.p with jobs := w.p.jobs.set j.val (g (w.p.job j)) j.isLt } }

/-- One lane changed. -/
def Work.modLane (w : Work) (l : LaneIx) (g : Lane → Lane) : Work :=
  { w with p := { w.p with lanes := w.p.lanes.set l.val (g (w.p.lane l)) l.isLt } }

/-- One board changed. -/
def Work.modBoard (w : Work) (b : LaneIx) (g : Board → Board) : Work :=
  { w with p := { w.p with boards := w.p.boards.set b.val (g (w.p.board b)) b.isLt } }

/-! ### Handing over to the window port -/

/-- The mirror entry of a slot is to be written (R77). -/
def Work.touchSlot (w : Work) (i : SlotIx) : Work :=
  { w with out := { w.out with slots := i :: w.out.slots } }

/-- The status entry of a job is to be written (R15, R25). -/
def Work.touchJob (w : Work) (j : JobIx) : Work :=
  { w with out := { w.out with jobs := j :: w.out.jobs } }

/-- The status entry of a member's job is to be written; a slot without a job has none. -/
def Work.touchMember (w : Work) (m : Option JobIx) : Work :=
  match m with
  | none => w
  | some j => w.touchJob j

/-- The status entry of a lane is to be written (R119). -/
def Work.touchLane (w : Work) (l : LaneIx) : Work :=
  { w with out := { w.out with lanes := l :: w.out.lanes } }

/-- The status entry of a board is to be written (R141). -/
def Work.touchBoard (w : Work) (b : LaneIx) : Work :=
  { w with out := { w.out with boards := b :: w.out.boards } }

/-- A unit write of the part that does not wait for an enable and precedes the status entries of the same
command: a digest entry before the job's status (R37, R39), a record with its count (R158). -/
def Work.put (w : Work) (offset : Nat) (bytes : List Byte) : Work :=
  { w with out := { w.out with writes := w.out.writes ++ [(offset, bytes)] } }

/-- A unit write of the part that does not wait for an enable and follows the status entries of the same
command: the results, which a job's status precedes (R13, R15, R172), and the fault detail word (R173,
R176). -/
def Work.putLast (w : Work) (offset : Nat) (bytes : List Byte) : Work :=
  { w with out := { w.out with last := w.out.last ++ [(offset, bytes)] } }

/-- A cause raised now, or at the next enable when the engine does not report (R165, R166). -/
def Work.raise (w : Work) (c : Cause) : Work :=
  { w with out := { w.out with causes := w.out.causes ||| c.bit } }

/-- A cause raised in every engine state (R162, R166, R175). -/
def Work.raiseNow (w : Work) (c : Cause) : Work :=
  { w with out := { w.out with now := w.out.now ||| c.bit } }

/-- The job reports of a command do not wait: a command in execution at a quiesce ends with its
results and causes (R166). -/
def Work.reportCommandJobs (w : Work) : Work :=
  { w with out := { w.out with
      forced := w.out.jobs ++ w.out.forced,
      now := w.out.now ||| (w.out.causes &&& Cause.jobChanged.bit),
      causes := w.out.causes &&& ~~~Cause.jobChanged.bit } }

/-- A change of job state reported (R15). -/
def Work.jobChanged (w : Work) (j : JobIx) : Work := (w.touchJob j).raise .jobChanged

/-- A change of lane state reported (R119). -/
def Work.laneChanged (w : Work) (l : LaneIx) : Work := (w.touchLane l).raise .laneEvent

/-- A change of board state, sag flag or LOCKED set reported (R141). -/
def Work.boardChanged (w : Work) (b : LaneIx) : Work := (w.touchBoard b).raise .railEvent

/-- A fault: its word, then FAULT (R176). -/
def Work.fault (w : Work) (c : FaultCode) (detail : Nat) : Work :=
  ({ w with p := { w.p with faultCode := c, faultDetail := detail } }.putLast 0x114
    (leBytes 1 c.code ++ leBytes 1 detail ++ leBytes 2 0)).raiseNow .fault

/-! ### Job status as shown (R180) -/

/-- The slot is a member of the job. -/
def Slot.memberOf (s : Slot) (j : JobIx) : Bool := decide (s.member = some j)

/-- A member count (R1): the member slots of a job in a state. -/
def Part.memberCount (p : Part) (j : JobIx) (st : SlotState) : Nat :=
  (allSlots.filter (fun i => (p.slot i).memberOf j && decide ((p.slot i).state = st))).length

/-- The resume points of the members that wait for a pass: 0 for READY, r for DEFERRED (R45). -/
def Part.resumePoints (p : Part) (j : JobIx) : List Nat :=
  allSlots.filterMap (fun i =>
    let s := p.slot i
    if s.memberOf j then
      match s.state with
      | .ready => some 0
      | .deferred => some s.writeChunk
      | _ => none
    else none)

/-- The lowest resume chunk (R51). -/
def Part.lowestResume (p : Part) (j : JobIx) : Option Nat := (p.resumePoints j).min?

/-- A job status entry (R180). -/
def jobEntry (p : Part) (j : JobIx) : List Byte :=
  let c := p.job j
  leBytes 1 c.state.code ++ leBytes 1 c.priority ++ leBytes 2 c.passNo ++ leBytes 4 c.f ++
    leBytes 4 c.i ++ leBytes 4 c.p ++ leBytes 4 c.d ++ leBytes 4 (chunkField (p.lowestResume j)) ++
    leBytes 4 c.chunks ++ leBytes 4 c.span ++ leBytes 4 c.blocks ++
    leBytes 2 (p.memberCount j .sizing) ++ leBytes 2 (p.memberCount j .probing) ++
    leBytes 2 (p.memberCount j .ready) ++ leBytes 2 (p.memberCount j .writing) ++
    leBytes 2 (p.memberCount j .deferred) ++ leBytes 2 (p.memberCount j .verifying) ++
    leBytes 2 (p.memberCount j .passed) ++ leBytes 2 (p.memberCount j .failed) ++
    leBytes 1 ((if c.lagRunning then 1 else 0) + (if c.passActive then 2 else 0)) ++
    leBytes 1 (jobFaultCode c.faultDetail) ++
    leBytes 1 (if c.state = .pausing ∨ c.state = .paused then c.remembered.code else 0) ++
    leBytes 9 0

/-- The window offset of a job status entry. -/
def jobOffset (j : JobIx) : Nat := 0x220 + 64 * j.val

/-- The window offset of a board status entry. -/
def boardOffset (b : LaneIx) : Nat := 0x120 + 8 * b.val

/-- The window offset of a lane status entry. -/
def laneOffset (l : LaneIx) : Nat := 0x1A0 + 8 * l.val

/-- The window offset of a mirror entry. -/
def mirrorOffset (i : SlotIx) : Nat := 0x800 + 8 * i.val

/-- The unit write of a job status entry. -/
def jobUnit (p : Part) (j : JobIx) : Nat × List Byte := (jobOffset j, jobEntry p j)

/-- The unit write of a board status entry. -/
def boardUnit (p : Part) (b : LaneIx) : Nat × List Byte := (boardOffset b, boardEntry (p.board b))

/-- The unit write of a lane status entry. -/
def laneUnit (p : Part) (l : LaneIx) : Nat × List Byte := (laneOffset l, laneEntry (p.lane l))

/-- The unit write of a mirror entry. -/
def mirrorUnit (p : Part) (i : SlotIx) : Nat × List Byte := (mirrorOffset i, mirrorEntry (p.slot i))

/-! ### The end of a command's work -/

/-- The engine makes status writes and raises their causes (R166, R168). -/
def Part.reports (p : Part) : Bool := decide (p.engine = .enabled)

/-- The status entries that a command writes: the forced ones, and, while the engine reports, the marked
ones (R166, R168). -/
def Work.statusUnits (w : Work) : List (Nat × List Byte) :=
  w.out.forced.map (jobUnit w.p) ++
    if w.p.reports then
      w.out.slots.map (mirrorUnit w.p) ++ w.out.jobs.map (jobUnit w.p) ++
        w.out.lanes.map (laneUnit w.p) ++ w.out.boards.map (boardUnit w.p)
    else []

/-- The window writes of a command, in their order: its own units, the status entries, then its results
and the fault detail word (R13, R15, R168, R178). -/
def Work.units (w : Work) : List (Nat × List Byte) := w.out.writes ++ w.statusUnits ++ w.out.last

/-- The millisecond clock goes with every write to the exchange block (R168). -/
def Work.clockUnit (w : Work) : List (Nat × List Byte) :=
  if w.units.any (fun u => decide (u.1 < 4096)) then [(0x118, leBytes 4 w.p.time.toNat)] else []

/-- The cause registers after a command (R165, R175). -/
def Work.causesAfter (w : Work) (p : Port) : Port :=
  if w.p.reports then { p with cause := p.cause ||| (w.out.now ||| w.out.causes) }
  else { p with cause := p.cause ||| w.out.now, deferred := p.deferred ||| w.out.causes }

/-- The state a command's work leaves: writes before causes (R169), the queue untouched. -/
def commit (s : State) (w : Work) : State :=
  { s with part := w.p, mem := s.mem.applyUnits (w.units ++ w.clockUnit),
           port := w.causesAfter s.port }

/-- A command that has its effect. -/
def run (s : State) (g : Work → Work) : Host.Outcome State Fault Refusal :=
  .next (commit s (g (Work.start s)))

/-- A command with host writes: they land first (R169); one outside the fitted memory faults. -/
def hosted (s : State) (ws : List Host.Cell)
    (g : State → Host.Outcome State Fault Refusal) : Host.Outcome State Fault Refusal :=
  if hostWritesFit s.part.straps ws then g { s with mem := s.mem.apply ws }
  else .fault .outsideWindow

/-- A command whose event cannot occur in this state changes nothing (log entry 2). -/
def guarded (b : Bool) (s : State) (g : Work → Work) : Host.Outcome State Fault Refusal :=
  if b then run s g else .next s

/-! ### The command unit (R172) -/

/-- The snapshot in execution, if its code is this one (R173). -/
def Part.executing (p : Part) (code : Half) : Option CommandCell :=
  match p.command with
  | .executing c => if c.code = code then some c else none
  | _ => none

/-- A host command: has its effect when the snapshot in execution is of this command. -/
def onCommand (s : State) (code : Half) (g : CommandCell → Work → Work) :
    Host.Outcome State Fault Refusal :=
  match s.part.executing code with
  | none => .next s
  | some c => run s (g c)

/-- The command unit set. -/
def Work.setUnit (w : Work) (u : CommandUnit) : Work := { w with p := { w.p with command := u } }

/-- The end of a command: result words, result code, done count, COMMAND_DONE; then a newer scanned
count is taken at once (R172), unless ENABLE has been written 0 (R166). -/
def Work.endCommand (w : Work) (c : CommandCell) (r : ResultCode) (w1 w2 : Word) : Work :=
  let p := { w.p with
    resultCode := r, result1 := w1, result2 := w2, doneCount := c.count,
    command := if w.p.engine = .enabled ∧ w.p.latestCount ≠ c.count then .readingCell else .idle }
  (((({ w with p := p }.putLast 0x108 (leBytes 4 w1.toNat)).putLast 0x10C
    (leBytes 4 w2.toNat)).putLast 0x104 (leBytes 4 r.code)).putLast 0x100
      (leBytes 4 c.count.toNat)).raiseNow .commandDone

/-- A refusal whose result words are 0 (R17, R173). -/
def Work.refuse (w : Work) (c : CommandCell) (r : ResultCode) : Work := w.endCommand c r 0 0

/-- A refusal with BAD_RECORD (R9). -/
def Work.badRecord (w : Work) (c : CommandCell) (d : Detail) (w2 : Word) : Work :=
  w.endCommand c .badRecord d.code w2

/-- A read error on a host area of a command (R173). -/
def Work.areaError (w : Work) (c : CommandCell) (area : Nat) : Work :=
  (w.badRecord c .areaRead (BitVec.ofNat 32 area)).fault .areaRead area

/-! ### Places and ready requests of a lane (R128, R130) -/

/-- A subclass 2 request or a port reset: a stick transaction, unlike port power and indicator
requests (R128). -/
def ControlKind.isStick : ControlKind → Bool
  | .portPowerOn => false
  | .portPowerOff => false
  | .lamp => false
  | _ => true

/-- A port power request (R127). -/
def ControlKind.isPower : ControlKind → Bool
  | .portPowerOn => true
  | .portPowerOff => true
  | _ => false

/-- A stick transaction (R128). -/
def Transaction.isStick : Transaction → Bool
  | .control k => k.isStick
  | .lamp _ => false
  | .data _ _ => true

/-- A DATA transaction (R128). -/
def Transaction.isData : Transaction → Bool
  | .data _ _ => true
  | _ => false

/-- The places of a lane, in order. -/
def Lane.placeList (l : Lane) : List (Option Place) := l.places.toList

/-- A place belongs to a port. -/
def holdsPort (port : PortIx) (o : Option Place) : Bool :=
  match o with
  | none => false
  | some pl => decide (pl.port = port)

/-- The transaction in flight for a port of a lane; there is at most one (R128). -/
def Lane.placeOf (l : Lane) (port : PortIx) : Option Place :=
  (l.placeList.find? (holdsPort port)).join

/-- The transaction in flight for a slot (R128). -/
def Part.placeOf (p : Part) (i : SlotIx) : Option Place := (p.lane (laneOf i)).placeOf (portOf i)

/-- The slot has a stick transaction in flight (R72, R128). -/
def Part.stickInFlight (p : Part) (i : SlotIx) : Bool :=
  match p.placeOf i with
  | none => false
  | some pl => pl.transaction.isStick

/-- The places of a lane with those of one port emptied when a test says so. -/
def Lane.freeWhere (l : Lane) (port : PortIx) (test : Place → Bool) : Lane :=
  { l with places := Vector.ofFn (fun k =>
      match l.places.get k with
      | none => none
      | some pl => if pl.port = port ∧ test pl then none else some pl) }

/-- The place of a slot is freed (R133, R134). -/
def Work.free (w : Work) (i : SlotIx) : Work :=
  w.modLane (laneOf i) (fun l => l.freeWhere (portOf i) (fun _ => true))

/-- How many leading requests of a list stood, in this order, in an older one. -/
def keptReady : List ReadyControl → List ReadyControl → Nat
  | [], _ => 0
  | _ :: _, [] => 0
  | o :: os, c :: cs => if o = c then keptReady os cs + 1 else keptReady os (c :: cs)

/-- A request put before the first one of a higher port. -/
def insertByPort (r : ReadyControl) : List ReadyControl → List ReadyControl
  | [] => [r]
  | x :: xs => if r.port < x.port then r :: x :: xs else x :: insertByPort r xs

/-- A request joins those ready: behind every one that the command found ready, and by ascending port
number among those that the command itself made ready (R130). -/
def joinReady (before now : List ReadyControl) (r : ReadyControl) : List ReadyControl :=
  now.take (keptReady before now) ++ insertByPort r (now.drop (keptReady before now))

/-- A CONTROL request becomes ready (R130). -/
def Work.request (w : Work) (i : SlotIx) (k : ControlKind) : Work :=
  w.modLane (laneOf i) (fun l =>
    { l with ready := joinReady (w.before.get (laneOf i)).ready l.ready
                        { port := portOf i, kind := k } })

/-- Ready requests of a slot are withdrawn where a test on their kind says so. -/
def Work.withdraw (w : Work) (i : SlotIx) (test : ControlKind → Bool) : Work :=
  w.modLane (laneOf i) (fun l =>
    { l with ready := l.ready.filter (fun r => !(decide (r.port = portOf i) && test r.kind)) })

/-- A request of this kind is ready for the slot. -/
def Part.isReady (p : Part) (i : SlotIx) (k : ControlKind) : Bool :=
  (p.lane (laneOf i)).ready.any (fun r => decide (r.port = portOf i) && decide (r.kind = k))

/-! ### Slot states (R53, R56) -/

/-- PASSED, FAILED and REJECTED (R56). -/
def SlotState.terminal : SlotState → Bool
  | .passed => true
  | .failed => true
  | .rejected => true
  | _ => false

/-- A life that has not reached a verdict (R73). -/
def SlotState.live (s : SlotState) : Bool := !s.terminal && decide (s ≠ .empty)

/-- The states that make a board be sampled FAST (R144). -/
def SlotState.fast : SlotState → Bool
  | .enumerating => true
  | .sizing => true
  | .probing => true
  | .writing => true
  | .verifying => true
  | _ => false

/-- The claimed capacity L + 1, formed without wrap; 0 if never answered (R70, R160). -/
def Slot.claimed (s : Slot) : Nat :=
  match s.capacity with
  | none => 0
  | some c => c.lastBlock.toNat + 1

/-- The computed progress per mille (R103). -/
def computedProgress (j : Job) (s : Slot) : Nat :=
  1000 * (s.written + s.verified) /
    (j.blocks * match j.record.verify with | .none => 1 | .digest => 2)

/-- The shown progress per mille (R103); a FAILED slot keeps the value shown before. -/
def Part.shownProgress (p : Part) (s : Slot) : Nat :=
  match s.state with
  | .passed => 1000
  | .failed => s.progress
  | .ready | .writing | .deferred | .verifying =>
    match s.member with
    | none => 0
    | some j => min 999 (computedProgress (p.job j) s)
  | _ => 0

/-- The blink phase is on (R78). -/
def Part.phaseOn (p : Part) : Bool := decide (p.time.toNat / Config.blinkHalf % 2 = 0)

/-- A lamp that is lit in one phase only. -/
def blink (on : Bool) (lit dark : Lamp) : Lamp := if on then lit else dark

/-- The desired indicator under AUTO (R78). -/
def SlotState.lamp (st : SlotState) (on : Bool) : Lamp :=
  match st with
  | .empty | .idle => .off
  | .settling | .enumerating | .sizing | .probing | .ready => blink on .amber .off
  | .writing | .verifying => blink on .green .off
  | .deferred => blink on .green .amber
  | .passed => .green
  | .failed | .rejected => .amber

/-- The desired indicator of a slot (R78, R79). -/
def Part.desiredLamp (p : Part) (s : Slot) : Lamp :=
  if p.settings.indicators then
    match s.override with
    | .auto => s.state.lamp p.phaseOn
    | .off => .off
    | .green => .green
    | .amber => .amber
    | .blinkGreen => blink p.phaseOn .green .off
    | .blinkAmber => blink p.phaseOn .amber .off
  else .off

/-- An indicator request made pending; one not yet granted is replaced (R79) and keeps its turn, also at
an entry into UP where it was ready while the lane was not UP (DESIGN CHOICE, log entry 26). -/
def Work.pendLamp (w : Work) (i : SlotIx) (c : Lamp) : Work :=
  let w1 := w.modSlot i (fun s => { s with pendingLamp := some c })
  if w.p.isReady i .lamp then w1 else w1.request i .lamp

/-- The desired indicator recomputed, and its request made pending or withdrawn (R78, R79). A value
that returns to the last-sent one is withdrawn also while another is in flight, and the end of that one
then makes nothing pending before the next recomputation (DESIGN CHOICE, log entry 40). -/
def Work.refreshLamp (w : Work) (i : SlotIx) : Work :=
  let d := w.p.desiredLamp (w.p.slot i)
  let w1 := w.modSlot i (fun s => { s with desired := d })
  if (w.p.slot i).lastSent = some d then
    (w1.modSlot i (fun s => { s with pendingLamp := none })).withdraw i (fun k => decide (k = .lamp))
  else w1.pendLamp i d

/-- The sampling mode a board has by its state and its slots (R144). -/
def Part.modeOf (p : Part) (b : LaneIx) : SamplingMode :=
  match (p.board b).state with
  | .ramping => .fast
  | .on => if (laneSlots b).any (fun i => (p.slot i).state.fast) then .fast else .quiet
  | _ => .none

/-- The sampling mode of a board re-evaluated (R144). -/
def Work.refreshMode (w : Work) (b : LaneIx) : Work :=
  w.modBoard b (fun x => { x with mode := w.p.modeOf b })

/-- The shown progress recomputed (R103). -/
def Work.refreshProgress (w : Work) (i : SlotIx) : Work :=
  w.modSlot i (fun s => { s with progress := w.p.shownProgress s })

/-- The shown progress recomputed after a change of the block counts; a changed value is written to
the mirror and raises nothing (R77, R103). -/
def Work.updateProgress (w : Work) (i : SlotIx) : Work :=
  let w1 := w.refreshProgress i
  if (w1.p.slot i).progress = (w.p.slot i).progress then w1 else w1.touchSlot i

/-- A slot enters a state: progress, sampling mode, indicator, member counts and mirror follow, then
SLOT_CHANGED (R1, R77, R78, R103, R144). -/
def Work.enterState (w : Work) (i : SlotIx) (st : SlotState) : Work :=
  ((((((w.modSlot i (fun s => { s with state := st })).refreshProgress i).refreshMode
    (laneOf i)).refreshLamp i).touchMember (w.p.slot i).member).touchSlot i).raise .slotChanged

/-! ### Outcomes (R157, R160) -/

/-- The record a slot's verdict is captured in (R71, R157, R160). -/
def Part.capture (p : Part) (i : SlotIx) (v : Verdict) : OutcomeRecord :=
  let s := p.slot i
  { slot := i, job := s.member,
    passNo := match s.member with | none => 0 | some j => (p.job j).passNo,
    verdict := v, reason := s.reason, vendor := s.vendor, product := s.product, serial := s.serial,
    truncated := s.truncated, claimed := s.claimed, honest := s.honest.getD 0, written := s.written,
    verified := s.verified, firstBad := s.firstBad, stickErrors := s.stickErrors,
    notReady := s.notReady, duration := p.time - s.lifeStart }

/-- The records in the list not yet consumed (R157). -/
def OutcomeUnit.unconsumed (o : OutcomeUnit) : Nat := (o.written - o.held).toNat

/-- A captured record joins the queue (R157); one that must wait raises OUTCOME_WAITING, a test that
an engine not enabled leaves to the next enable (R162). -/
def Work.append (w : Work) (r : OutcomeRecord) : Work :=
  let o := w.p.outcomes
  let waits := decide (o.capacity ≤ o.unconsumed + o.queue.length)
  let q : Queued := { outcome := r, unjudged := !w.p.reports }
  let w1 : Work := { w with p := { w.p with outcomes := { o with queue := o.queue ++ [q] } } }
  if w.p.reports && waits then w1.raise .outcomeWaiting else w1

/-- The verdict of a terminal state. -/
def SlotState.verdict : SlotState → Verdict
  | .passed => .passed
  | .rejected => .rejected
  | _ => .failed

/-- A terminal entry (R71): pending end and timers go, only indicator and port power requests stay
ready, the state is entered, the outcome captured and the outcome-pending flag set. -/
def Work.terminal (w : Work) (i : SlotIx) (st : SlotState) (r : Reason) : Work :=
  let w1 := (w.modSlot i (fun s =>
    { s with reason := r, pendingEnd := .none, backoff := none, probe := none })).withdraw i
      (fun k => k.isStick)
  let w2 := w1.enterState i st
  (w2.append (w2.p.capture i st.verdict)).modSlot i (fun s => { s with outcomePending := true })

/-- A life fails (R71). -/
def Work.fail (w : Work) (i : SlotIx) (r : Reason) : Work := w.terminal i .failed r

/-! ### Staging: release, lag, pass end, and the tests of a job -/

/-- A member of the job in WRITING (R41). -/
def Part.active (p : Part) (j : JobIx) (i : SlotIx) : Bool :=
  (p.slot i).memberOf j && decide ((p.slot i).state = .writing)

/-- The active set of a job (R41). -/
def Part.activeSet (p : Part) (j : JobIx) : List SlotIx := allSlots.filter (p.active j)

/-- min(I, the lowest cursor chunk of the active set) (R43). -/
def Part.lowestCursor (p : Part) (j : JobIx) : Nat :=
  (p.activeSet j).foldl (fun m i => min m (p.slot i).writeChunk) (p.job j).i

/-- P for these staging values: min(v, F + W, N) (R32). -/
def Job.effective (c : Job) : Nat := min c.v (min (c.f + c.record.depth) c.chunks)

/-- F recomputed under R43, P with it under R32, and CHUNK_RELEASED at a rise (R44). -/
def Work.recomputeRelease (w : Work) (j : JobIx) : Work :=
  let c := w.p.job j
  let f := w.p.lowestCursor j
  if c.passActive && decide (c.state ≠ .aborting) && decide (f ≠ c.f) then
    let w1 := (w.modJob j (fun c =>
      let c1 := { c with f := f }
      { c1 with p := c1.effective })).touchJob j
    if c.f < f then w1.raise .chunkReleased else w1
  else w

/-- The lag condition (R46). -/
def Part.lagCondition (p : Part) (j : JobIx) : Bool :=
  let c := p.job j
  c.passActive && decide (c.i = c.p) && decide (c.p = c.f + c.record.depth) &&
    decide (c.f + c.record.depth < c.chunks) &&
    (p.activeSet j).any (fun i => decide (c.f + c.record.depth ≤ (p.slot i).writeChunk))

/-- The laggards: active slots whose cursor chunk equals F (R46). -/
def Part.laggards (p : Part) (j : JobIx) : List SlotIx :=
  (p.activeSet j).filter (fun i => decide ((p.slot i).writeChunk = (p.job j).f))

/-- A slot marked by an expiry is still in the active set (R48, R49). -/
def Part.markedRemain (p : Part) (j : JobIx) : Bool :=
  (p.activeSet j).any (fun i =>
    decide ((p.slot i).pendingEnd = .defer) || decide ((p.slot i).pendingEnd = .laggard))

/-- The terms, beside the condition and the spent mark, under which the lag hold timer runs (R47). -/
def Part.lagTerms (p : Part) (j : JobIx) : Bool :=
  let c := p.job j
  decide (c.state = .running) && decide (c.record.policy ≠ .wait) && p.reports &&
    !(p.laggards j).any (fun i => (p.board (laneOf i)).sagging)

/-- The lag hold timer started, stopped or cleared (R47, R49). The spent mark of an expiry that marked
a slot clears when the last such slot has left, that of one that marked none when the condition ends. -/
def Work.evalLag (w : Work) (j : JobIx) : Work :=
  let c := w.p.job j
  let cond := w.p.lagCondition j
  let freed := c.lagSpent && !w.p.markedRemain j && (c.lagMarked || !cond)
  let spent := c.lagSpent && !freed
  let running := cond && !spent && w.p.lagTerms j
  let timer := if cond && !freed then c.lagTimer else 0
  let w1 := w.modJob j (fun c =>
    { c with lagTimer := timer, lagRunning := running, lagSpent := spent,
             lagMarked := c.lagMarked && spent })
  if running = c.lagRunning then w1 else w1.touchJob j

/-- Every READY or DEFERRED member fails with JOB_CLOSED, in ascending slot order (R21, R50; the order is
a DESIGN CHOICE, log entry 39). -/
def Work.failWaiting (w : Work) (j : JobIx) : Work :=
  allSlots.foldl (fun w i =>
    let s := w.p.slot i
    if s.memberOf j && (decide (s.state = .ready) || decide (s.state = .deferred)) then
      w.fail i .jobClosed
    else w) w

/-- Some member of the job is non-terminal (R21, R22). -/
def Part.hasLiveMember (p : Part) (j : JobIx) : Bool :=
  allSlots.any (fun i => (p.slot i).memberOf j && (p.slot i).state.live)

/-- The end of a pass is due (R50). -/
def Part.passEndDue (p : Part) (j : JobIx) : Bool :=
  (p.job j).passActive && (p.activeSet j).isEmpty && !(p.job j).intakeInFlight

/-- The job state after a pass end (R50). -/
def JobState.afterPass : JobState → JobState
  | .running => .standby
  | s => s

/-- The pass ends: flag and lag timer clear, the state follows, JOB_CHANGED, then REWIND_NEEDED for
members that wait in a job that is not closing (R50, R51). -/
def Work.endPass (w : Work) (j : JobIx) : Work :=
  let c := w.p.job j
  let w1 := (w.modJob j (fun c => { c with
    passActive := false, lagTimer := 0, lagRunning := false, lagSpent := false, lagMarked := false,
    state := c.state.afterPass,
    remembered := if c.state = .pausing ∨ c.state = .paused then .standby else c.remembered
    })).jobChanged j
  if c.state = .closing then w1.failWaiting j
  else if (w.p.resumePoints j).isEmpty then w1 else w1.raise .rewindNeeded

/-- The pass ends if its end is due (R50). -/
def Work.testPassEnd (w : Work) (j : JobIx) : Work := if w.p.passEndDue j then w.endPass j else w

/-- A place of a lane holds a DATA transaction of a member of the job. -/
def Part.dataOf (p : Part) (j : JobIx) (l : LaneIx) (o : Option Place) : Bool :=
  match o with
  | none => false
  | some pl => pl.transaction.isData && (p.slot (slotOf l pl.port)).memberOf j

/-- A DATA transaction of the job is in flight on some lane (R19). -/
def Part.dataInFlight (p : Part) (j : JobIx) : Bool :=
  allLanes.any (fun l => (p.lane l).placeList.any (p.dataOf j l))

/-- A PAUSING job is due to enter PAUSED (R19). -/
def Part.pausedDue (p : Part) (j : JobIx) : Bool :=
  decide ((p.job j).state = .pausing) && !p.dataInFlight j

/-- The job enters a state and reports it (R15). -/
def Work.setJobState (w : Work) (j : JobIx) (st : JobState) : Work :=
  (w.modJob j (fun c => { c with state := st })).jobChanged j

/-- A PAUSING job enters PAUSED when its last DATA transaction in flight has ended (R19). -/
def Work.testPaused (w : Work) (j : JobIx) : Work :=
  if w.p.pausedDue j then w.setJobState j .paused else w

/-- A CLOSING or ABORTING job is due to enter ENDED (R21, R22). -/
def Part.endedDue (p : Part) (j : JobIx) : Bool :=
  (decide ((p.job j).state = .closing) || decide ((p.job j).state = .aborting)) &&
    !p.hasLiveMember j && !(p.job j).intakeInFlight

/-- The job enters ENDED if the test holds (R21, R22). -/
def Work.testEnded (w : Work) (j : JobIx) : Work :=
  if w.p.endedDue j then w.setJobState j .ended else w

/-- What follows a change of a job's members, cursors or intake: F and P, the lag timer, the pass
end, PAUSED and ENDED, in the handling of the same event (R19, R21, R22, R43, R46, R50). -/
def Work.jobTests (w : Work) (j : JobIx) : Work :=
  ((((w.recomputeRelease j).testPassEnd j).evalLag j).testPaused j).testEnded j

/-- `jobTests` for the job of a slot that has one. -/
def Work.memberTests (w : Work) (m : Option JobIx) : Work :=
  match m with
  | none => w
  | some j => w.jobTests j

/-- `jobTests` for every job. -/
def Work.allJobTests (w : Work) : Work := allJobs.foldl (fun w j => w.jobTests j) w

/-- The lag timers of all jobs re-evaluated. -/
def Work.evalLags (w : Work) : Work := allJobs.foldl (fun w j => w.evalLag j) w

/-! ### Joining a pass, and becoming READY -/

/-- A write cursor placed and settled (R92). -/
def Work.placeCursor (w : Work) (i : SlotIx) (j : JobIx) (n o : Nat) : Work :=
  let c := (w.p.job j).settleWrite n o
  w.modSlot i (fun s => { s with writeChunk := c.1, writeOffset := c.2 })

/-- A member joins the pass of its job at its resume point (R45, R91). -/
def Work.join (w : Work) (i : SlotIx) (j : JobIx) (r : Nat) : Work :=
  (w.placeCursor i j r 0).enterState i .writing

/-- A member becomes READY: it joins while the pass is active with F at 0, fails in a closing job
with no pass, and waits otherwise (R21, R45, R70, R88). -/
def Work.becomeReady (w : Work) (i : SlotIx) (j : JobIx) : Work :=
  let c := w.p.job j
  let w1 := w.modSlot i (fun s => { s with probe := none })
  if c.passActive && decide (c.f = 0) then w1.join i j 0
  else if c.state = .closing ∧ c.passActive = false then w1.fail i .jobClosed
  else w1.enterState i .ready

/-! ### Pending ends -/

/-- A marked laggard is deferred: its cursor goes back to the start of its chunk and its written
count with it; in an ABORTING job it then fails at once (R22, R49). -/
def Work.deferSlot (w : Work) (i : SlotIx) : Work :=
  match (w.p.slot i).member with
  | none => w
  | some j =>
    let c := w.p.job j
    let w1 := (w.modSlot i (fun s => { s with
      pendingEnd := .none, backoff := none, writeOffset := 0,
      written := s.written - writtenWithin c.extents (c.chunkStart s.writeChunk)
        (c.chunkStart s.writeChunk + s.writeOffset) })).withdraw i (fun k => k.isStick)
    let w2 := w1.enterState i .deferred
    if c.state = .aborting then w2.fail i c.abortReason.reason else w2

/-- A pending end applies to a slot with no stick transaction in flight (R49, R72). -/
def Work.applyEnd (w : Work) (i : SlotIx) : Work :=
  match (w.p.slot i).pendingEnd with
  | .none => w
  | .defer => w.deferSlot i
  | .laggard => w.fail i .laggard
  | .operator => w.fail i .operator
  | .aborted => w.fail i .aborted
  | .imageChanged => w.fail i .imageChanged

/-- A pending end is taken: it is set only while it is none; a recovery or other stick request not
yet granted is withdrawn; with nothing in flight it applies at once (R72, R111). -/
def Work.takeEnd (w : Work) (i : SlotIx) (e : PendingEnd) : Work :=
  if (w.p.slot i).pendingEnd = .none then
    let w1 := (w.modSlot i (fun s => { s with pendingEnd := e, backoff := none })).withdraw i
      (fun k => k.isStick)
    if w.p.stickInFlight i then w1 else w1.applyEnd i
  else w

/-- A job enters ABORTING: the pass-active flag clears and the counts freeze, every non-terminal
member takes the pending end of the abort reason, in ascending slot order (a DESIGN CHOICE, log entry
39), and a job with none left enters ENDED at once (R15, R22). -/
def Work.enterAborting (w : Work) (j : JobIx) (r : AbortReason) : Work :=
  let w1 := (w.modJob j (fun c => { c with
    state := .aborting, abortReason := r, faultDetail := some r, passActive := false })).jobChanged j
  let w2 := allSlots.foldl (fun w i =>
    let s := w.p.slot i
    if s.memberOf j && s.state.live then w.takeEnd i r.pendingEnd else w) w1
  (w2.evalLag j).testEnded j

/-! ### Lives: attach, detach, loss of service -/

/-- A life begins: SETTLING, with the per-life items cleared (R56). -/
def Work.startLife (w : Work) (i : SlotIx) : Work :=
  (w.modSlot i (fun s => { s with
    member := none, vendor := 0, product := 0, serial := [], truncated := false, ifaces := [],
    iface := none, capacityNext := false, capacity := none, probe := none, writeChunk := 0,
    writeOffset := 0, verifyChunk := 0, verifyOffset := 0, written := 0, verified := 0,
    verifyCrc := 0, attempts := 0, retries := 0, stickErrors := 0, notReady := 0,
    pendingEnd := .none, reason := .none, firstBad := none, honest := none,
    lifeStart := w.p.time, settle := 0, backoff := none })).enterState i .settling

/-- A slot returns to EMPTY; its membership ends (R55, R56). -/
def Work.enterEmpty (w : Work) (i : SlotIx) : Work :=
  let m := (w.p.slot i).member
  (((w.modSlot i (fun s => { s with
    member := none, pendingEnd := .none, backoff := none, probe := none })).withdraw i
      (fun k => k.isStick)).enterState i .empty).touchMember m

/-- A detach notice (R74): the transaction in flight is abandoned (R134); a life that has not reached
a verdict, past SETTLING, fails REMOVED; the slot is EMPTY. -/
def Work.detach (w : Work) (i : SlotIx) : Work :=
  let s := w.p.slot i
  let w1 := w.free i
  match s.state with
  | .empty => w1.modSlot i (fun s => { s with attachWaiting := false })
  | .settling => w1.enterEmpty i
  | .passed | .failed | .rejected => (w1.enterEmpty i).memberTests s.member
  | _ => ((w1.fail i .removed).enterEmpty i).memberTests s.member

/-- A slot's port power state (R148). -/
def Part.portOn (p : Part) (i : SlotIx) : Bool :=
  decide ((p.board (laneOf i)).ports.get (portOf i) = .on)

/-- An attach notice for an EMPTY slot (R57). -/
def Work.attachEmpty (w : Work) (i : SlotIx) : Work :=
  if (w.p.slot i).outcomePending then w.modSlot i (fun s => { s with attachWaiting := true })
  else w.startLife i

/-- An attach notice (R57): ignored when the port is not ON; for a slot that is not EMPTY it is a
detach followed by an attach. -/
def Work.attach (w : Work) (i : SlotIx) : Work :=
  if w.p.portOn i then
    if (w.p.slot i).state = .empty then w.attachEmpty i else (w.detach i).attachEmpty i
  else w

/-- A waiting attach is due for release: flag set, outcome written (R58). -/
def Part.releaseDue (p : Part) (i : SlotIx) : Bool :=
  (p.slot i).attachWaiting && !(p.slot i).outcomePending

/-- A waiting attach released: a life begins if the lane is UP (R58). -/
def Work.releaseAttach (w : Work) (i : SlotIx) : Work :=
  let w1 := w.modSlot i (fun s => { s with attachWaiting := false })
  if (w.p.lane (laneOf i)).state = .up then w1.startLife i else w1

/-- A slot loses service: a non-terminal life fails with the reason, its transaction abandoned, its
pending end and timers discarded; the tests of its job are made by the caller (R75). -/
def Work.loseService (w : Work) (i : SlotIx) (r : Reason) : Work :=
  if (w.p.slot i).state.live then w.fail i r else w

end Sys2Proof.Machine
end

