-- ==== Sys2Proof/Machine/Exchange.lean ====
section
/-! DEFINITION. The window port: resets (R167), the registers (R163 to R166, R175), the exchange scan
(R170, R171), and the taking of commands (R172, R173). The read of a publish field is in
Staging.lean. -/

namespace Sys2Proof.Machine

/-! ### Resets -/

/-- POWER_ON_RESET (R167): every block at its reset state, straps captured, the image memory as after
power-on (log entry 4). -/
def execPowerOnReset (straps : Straps) (s : State) : Host.Outcome State Fault Refusal :=
  .next (.resetWith straps [] s.pending)

/-- PIN_RESET (R167): as power-on, but the image memory keeps its content. -/
def execPinReset (straps : Straps) (s : State) : Host.Outcome State Fault Refusal :=
  .next (.resetWith straps s.mem s.pending)

/-- SOFT_RESET (R164, R167): the straps and the image memory are kept; ENABLE in the same write is
ignored. -/
def execSoftReset (_enableBit : Bool) (s : State) : Host.Outcome State Fault Refusal :=
  .next (.resetWith s.part.straps s.mem s.pending)

/-! ### Enable and quiesce -/

/-- A scan request (R170). One that meets a scan ended by a quiesce waits for its read in flight
(log entry 25). -/
def Scan.request : Scan → Scan
  | .idle => .inFlight .commandCount false
  | .inFlight n _ => .inFlight n true
  | .ending n _ => .ending n true

/-- A scan request made. -/
def Work.requestScan (w : Work) : Work := { w with p := { w.p with scan := w.p.scan.request } }

/-- The scan cut short at ENABLE = 0: the read in flight is discarded, a pending scan cleared
(R170). -/
def Scan.cut : Scan → Scan
  | .idle => .idle
  | .inFlight n _ => .ending n false
  | .ending n _ => .ending n false

/-- A board enters RAMPING: switched on, counts and sag flag clear, FAST, due at once (R143). -/
def Work.ramp (w : Work) (b : LaneIx) : Work :=
  (w.modBoard b (fun x => { x with
    state := .ramping, switchOn := true, sagging := false, sagRun := 0, deadRun := 0, mode := .fast,
    due := some w.p.time })).boardChanged b

/-- Every fitted board in OFF enters RAMPING (R143, R165). -/
def Work.rampAll (w : Work) : Work :=
  allLanes.foldl (fun w b => if (w.p.board b).state = .off then w.ramp b else w) w

/-- The list has no room for another record (R158). -/
def OutcomeUnit.full (o : OutcomeUnit) : Bool := decide (o.capacity ≤ o.unconsumed)

/-- Once the record writes after an enable stop for want of room, OUTCOME_WAITING is raised once if a
record appended while the engine was not enabled is still queued (R162). -/
def Work.judgeWaiting (w : Work) : Work :=
  let o := w.p.outcomes
  if w.p.reports && o.full && decide (o.writing = none) && o.queue.any (·.unjudged) then
    let queue := o.queue.map (fun q => { q with unjudged := false })
    ({ w with p := { w.p with outcomes := { o with queue := queue } } } : Work).raise
      .outcomeWaiting
  else w

/-- The unit writes of an enable that no status entry covers (R165 step 1). -/
def Part.headerUnits (p : Part) : List (Nat × List Byte) :=
  [(0x100, leBytes 4 p.doneCount.toNat), (0x104, leBytes 4 p.resultCode.code),
   (0x108, leBytes 4 p.result1.toNat), (0x10C, leBytes 4 p.result2.toNat),
   (0x110, leBytes 4 p.outcomes.written.toNat),
   (0x114, leBytes 1 p.faultCode.code ++ leBytes 1 p.faultDetail ++ leBytes 2 0)]

/-- An enable (R165): every part-owned field is written, the deferred causes are raised, boards ramp,
stopped timers run on, and a scan is performed. The reserved bytes between the structures of the exchange
block (0x11C, 0x320; R180) are not written (DESIGN CHOICE, log entry 46). -/
def Work.startEngine (w : Work) (deferred : BitVec 11) : Work :=
  let w1 : Work :=
    { w with
      p := { w.p with engine := .enabled, scanTimer := 0 },
      out := { w.out with writes := w.out.writes ++ w.p.headerUnits, slots := allSlots,
                          jobs := allJobs, lanes := allLanes, boards := allLanes, now := deferred } }
  (w1.rampAll.evalLags.judgeWaiting).requestScan

/-- ENABLE: a control write of ENABLE = 1 (R164, R165). An enabled engine is not changed; a quiesce
in progress is abandoned. -/
def execEnable (s : State) : Host.Outcome State Fault Refusal :=
  if s.part.engine = .enabled then .next s
  else
    let s1 : State := { s with port := { s.port with deferred := 0 } }
    run s1 (fun w => w.startEngine s.port.deferred)

/-- A lane with its four places empty has reported idle (R140). -/
def Lane.idle (l : Lane) : Bool := l.placeList.all (·.isNone)

/-- No command in execution, no scan read, intake, transaction or record write in flight (R166). -/
def Part.nothingInFlight (p : Part) : Bool :=
  decide (p.command = .idle) && decide (p.scan = .idle) && decide (p.intake = none) &&
    allLanes.all (fun l => (p.lane l).idle) && decide (p.outcomes.writing = none)

/-- The engine becomes quiescent: ENABLE reads 0 and QUIESCED is raised (R166). -/
def Work.becomeQuiescent (w : Work) : Work :=
  ({ w with p := { w.p with engine := .notEnabled } } : Work).raiseNow .quiesced

/-- QUIESCE: a control write of ENABLE = 0 (R164, R166). With nothing in flight the engine is
quiescent in the handling of the write. -/
def execQuiesce (s : State) : Host.Outcome State Fault Refusal :=
  if s.part.engine = .enabled then
    run s (fun w =>
      let w1 : Work := { w with p := { w.p with engine := .quiescing, scan := w.p.scan.cut } }
      let w2 := w1.evalLags
      if w2.p.nothingInFlight then w2.becomeQuiescent else w2)
  else .next s

/-- ENGINE_QUIESCED: the last window access in flight has ended (R166). -/
def execEngineQuiesced (s : State) : Host.Outcome State Fault Refusal :=
  guarded (decide (s.part.engine = .quiescing) && s.part.nothingInFlight) s Work.becomeQuiescent

/-! ### Register writes -/

/-- ATTENTION: any value requests a scan; ignored while the engine is not enabled or quiescing (R163,
R170). -/
def execAttention (_value : Word) (host : List Host.Cell) (s : State) :
    Host.Outcome State Fault Refusal :=
  hosted s host (fun s => guarded s.part.reports s Work.requestScan)

/-- CAUSE_CLEAR: write 1 to clear (R175). -/
def execCauseClear (value : Word) (s : State) : Host.Outcome State Fault Refusal :=
  .next { s with port := s.port.clearCauses value }

/-- CAUSE_ENABLE_WRITE (R175). -/
def execCauseEnableWrite (value : Word) (s : State) : Host.Outcome State Fault Refusal :=
  .next { s with port := s.port.writeEnable value }

/-- REGISTER_WRITE: a write to the identity register or to reserved places is ignored (R163, R179). A
write to one of the other four registers is the command that `registerCommand` names. -/
def execRegisterWrite (_offset : Nat) (_value : Word) (s : State) :
    Host.Outcome State Fault Refusal :=
  .next s

/-! ### The exchange scan -/

/-- SCAN_INTERVAL_EXPIRY: the timer has reached a non-zero interval; a scan request is made and the
timer starts again (R170). -/
def execScanIntervalExpiry (s : State) : Host.Outcome State Fault Refusal :=
  guarded (s.part.reports && decide (0 < s.part.settings.scanInterval) &&
      decide (s.part.settings.scanInterval ≤ s.part.scanTimer)) s
    (fun w => ({ w with p := { w.p with scanTimer := 0 } } : Work).requestScan)

/-- The read a scan makes after this one (R170); none after the last. -/
def ScanRead.succ : ScanRead → Option ScanRead
  | .commandCount => some (.publish 0)
  | .publish j => if j.val = 3 then some .consumed else some (.publish (j + 1))
  | .consumed => none

/-- The scan after a read has returned (R170): the next read, or idle, or the pending scan. A scan has one
read in flight at a time, so that a scan which a quiesce has ended is over when that read returns (DESIGN
CHOICE, log entry 45). -/
def Scan.returned : Scan → Scan
  | .idle => .idle
  | .inFlight n pending =>
    match n.succ with
    | some m => .inFlight m pending
    | none => if pending then .inFlight .commandCount false else .idle
  | .ending _ pending => if pending then .inFlight .commandCount false else .idle

/-- The scan after a read has returned. -/
def Work.scanReturned (w : Work) : Work := { w with p := { w.p with scan := w.p.scan.returned } }

/-- A read of the scan that returns with an error is reported with area code 6, in a scan ended by a
quiesce too, and the scan goes on (R170). -/
def Work.scanError (w : Work) : Work := (w.fault .areaRead 6).scanReturned

/-- A read of the scan returns: its value is acted on in a live scan, discarded in one ended by a
quiesce, and reported where it met a read error (R170). -/
def scanRead (s : State) (r : ScanRead) (error : Bool) (act : Work → Work) :
    Host.Outcome State Fault Refusal :=
  match s.part.scan with
  | .inFlight n _ =>
    if n = r then run s (fun w => if error then w.scanError else (act w).scanReturned)
    else .next s
  | .ending n _ =>
    if n = r then run s (fun w => if error then w.scanError else w.scanReturned) else .next s
  | .idle => .next s

/-- The command count read by a scan: an idle unit takes a command when it differs from the done count
(R172). -/
def Work.actCommandCount (w : Work) (c : Word) : Work :=
  { w with p := { w.p with
      latestCount := c,
      command := if w.p.command = .idle ∧ c ≠ w.p.doneCount then .readingCell
                 else w.p.command } }

/-- COMMAND_COUNT_READ (R172). -/
def execCommandCountRead (error : Bool) (host : List Host.Cell) (s : State) :
    Host.Outcome State Fault Refusal :=
  hosted s host (fun s =>
    scanRead s .commandCount error (fun w => w.actCommandCount (s.mem.word 0x00)))

/-- The consumed count read by a scan: accepted between the held and the written count, else held and
reported once per refused value (R171). The fault names no job and no area: byte 1 of its word is 0
(DESIGN CHOICE, log entry 43). -/
def Work.actConsumed (w : Work) (c : Word) : Work :=
  let o := w.p.outcomes
  if (c - o.held).toNat ≤ (o.written - o.held).toNat then
    { w with p := { w.p with outcomes := { o with held := c }, refused := none } }
  else if w.p.refused = some c then w
  else ({ w with p := { w.p with refused := some c } } : Work).fault .consumedAhead 0

/-- CONSUMED_COUNT_READ (R171). -/
def execConsumedCountRead (error : Bool) (host : List Host.Cell) (s : State) :
    Host.Outcome State Fault Refusal :=
  hosted s host (fun s =>
    scanRead s .consumed error (fun w => w.actConsumed (s.mem.word consumedOffset)))

/-! ### Taking commands -/

/-- COMMAND_SNAPSHOT_RETURN (R172): the taking is dropped if the count equals the done count or the
read met an error; otherwise the snapshot is executed. -/
def execCommandSnapshotReturn (error : Bool) (host : List Host.Cell) (s : State) :
    Host.Outcome State Fault Refusal :=
  hosted s host (fun s =>
    guarded (decide (s.part.command = .readingCell)) s (fun w =>
      let cell := readCell s.mem
      if error then (w.setUnit .idle).fault .areaRead 6
      else if cell.count = w.p.doneCount then w.setUnit .idle
      else w.setUnit (.executing cell)))

/-- The snapshot in execution, if its code names no command (R173). -/
def Part.executingUnknown (p : Part) : Option CommandCell :=
  match p.command with
  | .executing c => if commandCodes.contains c.code then none else some c
  | _ => none

/-- UNKNOWN_COMMAND (R173). -/
def execUnknownCommand (s : State) : Host.Outcome State Fault Refusal :=
  match s.part.executingUnknown with
  | none => .next s
  | some c => run s (fun w => w.refuse c .unknownCommand)

end Sys2Proof.Machine
end

