-- ==== Sys2Proof/Machine/Slots.lean ====
section
/-! DEFINITION. Slots: enumeration (R60 to R63), the admission filter (R64, R65), admission and the
slot-to-job map (R66 to R68), ejecting (R73), indicators (R78, R80), and the slot timers (R59, R69). -/

namespace Sys2Proof.Machine

/-! ### Enumeration -/

/-- An enumeration attempt begins: it is counted, and its port reset becomes ready (R60, R61). -/
def Work.beginAttempt (w : Work) (i : SlotIx) : Work :=
  (w.modSlot i (fun s => { s with attempts := s.attempts + 1 })).request i .portReset

/-- An attempt has failed: a new one below three, else ENUM_FAILED (R61). -/
def Work.attemptFailed (w : Work) (i : SlotIx) : Work :=
  if (w.p.slot i).attempts < 3 then w.beginAttempt i else w.fail i .enumFailed

/-- The settle time has passed: ENUMERATING, with its first attempt (R59). -/
def Work.enterEnumerating (w : Work) (i : SlotIx) : Work :=
  (w.enterState i .enumerating).beginAttempt i

/-- A slot whose settle timer stands at or above the settle time (R59). -/
def Part.settled (p : Part) (i : SlotIx) : Bool :=
  decide ((p.slot i).state = .settling) && decide (p.settings.settleTime ≤ (p.slot i).settle)

/-- The settle timer of a slot has run to the settle time (R59). The timer is stopped while the engine is
not enabled, so an expiry that was not taken before ENABLE was written 0 waits for the next enable (DESIGN
CHOICE, log entry 41). -/
def Part.settleExpired (p : Part) (i : SlotIx) : Bool := p.reports && p.settled i

/-- SETTLE_TIMER_EXPIRY (R59). -/
def execSettleTimerExpiry (i : SlotIx) (s : State) : Host.Outcome State Fault Refusal :=
  guarded (s.part.settleExpired i) s (fun w => w.enterEnumerating i)

/-- The backoff timer of a slot has reached 100 ms with the engine enabled (R69, R108). -/
def Part.backoffDone (p : Part) (i : SlotIx) : Bool :=
  p.reports && (match (p.slot i).backoff with
    | none => false
    | some t => decide (Config.backoff ≤ t))

/-- BACKOFF_TIMER_EXPIRY: the same transaction is ready again (R69, R108, R112). -/
def execBackoffTimerExpiry (i : SlotIx) (s : State) : Host.Outcome State Fault Refusal :=
  guarded (s.part.backoffDone i) s (fun w => w.modSlot i (fun s => { s with backoff := none }))

/-- A character as it is kept: its own code in 0x20 to 0x7E, else 0x3F (R62). -/
def keepChar (c : Half) : Byte :=
  if 0x20 ≤ c.toNat ∧ c.toNat ≤ 0x7E then c.setWidth 8 else 0x3F

/-- The serial string a stick returned is kept: at most 32 characters (R62). -/
def Slot.keepSerial (s : Slot) (chars : List Half) : Slot :=
  { s with serial := (chars.take 32).map keepChar, truncated := decide (32 < chars.length) }

/-- An interface that passes the class check (R63, R183). -/
def acceptedIface (f : Iface) : Bool :=
  decide (f.cls = 0x08) && decide (f.commandSet = 0x06) && decide (f.transport = 0x50) &&
    decide (f.bulkIn = 1) && decide (f.bulkOut = 1)

/-- The class check between steps 4 and 5 (R63). -/
def Work.classCheck (w : Work) (i : SlotIx) : Work :=
  match (w.p.slot i).ifaces.find? acceptedIface with
  | none => w.fail i .unsupported
  | some f =>
    (w.modSlot i (fun s => { s with iface := some f })).request i .selectConfiguration

/-! ### The admission filter -/

/-- The bucket of an identity: the top six bits of its CRC-32 (R65). -/
def bucketOf (vendor product : Half) : Nat :=
  (crc32 (leBytes 2 vendor.toNat ++ leBytes 2 product.toNat)).toNat / 67108864

/-- The first valid entry that matches an identity (R65). -/
def AdmissionFilter.entryFor (f : AdmissionFilter) (vendor product : Half) : Option FilterEntry :=
  f.entries.toList.find? (fun e =>
    e.valid && decide (e.vendor = vendor) && decide (e.product = product))

/-- The decision on an identity is REJECT (R65). -/
def AdmissionFilter.rejects (f : AdmissionFilter) (vendor product : Half) : Bool :=
  match f.entryFor vendor product with
  | some e => e.reject
  | none => f.mask.getLsbD (bucketOf vendor product)

/-! ### Admission -/

/-- The states of a job that take members in (R16, R66). -/
def JobState.admits : JobState → Bool
  | .standby => true
  | .running => true
  | .pausing => true
  | .paused => true
  | _ => false

/-- A stick is admitted: the slot becomes a member and enters SIZING (R55, R66). -/
def Work.takeIn (w : Work) (i : SlotIx) (j : JobIx) : Work :=
  (w.modSlot i (fun s => { s with member := some j, capacityNext := false })).enterState i .sizing

/-- An accepted stick is admitted to the job its map entry names, or waits IDLE (R66). -/
def Work.admitOrIdle (w : Work) (i : SlotIx) : Work :=
  match w.p.mapOf i with
  | none => w.enterState i .idle
  | some j => if (w.p.job j).state.admits then w.takeIn i j else w.enterState i .idle

/-- A successful enumeration goes to the filter (R65). -/
def Work.filterDecision (w : Work) (i : SlotIx) : Work :=
  let s := w.p.slot i
  if w.p.filter.rejects s.vendor s.product then w.terminal i .rejected .filtered
  else w.admitOrIdle i

/-- The IDLE slots whose map entry names the job (R13, R67). -/
def Part.idleMapped (p : Part) (j : JobIx) : List SlotIx :=
  allSlots.filter (fun i => decide ((p.slot i).state = .idle) && decide (p.mapOf i = some j))

/-- Slots admitted to a job, in order (R13, R67). -/
def Work.admitAll (w : Work) (j : JobIx) (is : List SlotIx) : Work :=
  is.foldl (fun w i => w.takeIn i j) w

/-! ### Slot commands -/

/-- The job field of ASSIGN_SLOTS: a job, none, or neither (R68). -/
def assignedJob (b : Byte) : Option (Option JobIx) :=
  if b = 0xFF then some none else (jobOfByte b).map some

/-- The slots of a range. -/
def slotRange (first count : Nat) : List SlotIx :=
  allSlots.filter (fun i => decide (first ≤ i.val ∧ i.val < first + count))

/-- A slot that is a non-terminal member of a job other than the one named (R68). -/
def Part.busyFor (p : Part) (m : Option JobIx) (i : SlotIx) : Bool :=
  let s := p.slot i
  s.state.live && s.member.isSome && decide (s.member ≠ m)

/-- The map entries of a range set (R68). -/
def Work.setMap (w : Work) (is : List SlotIx) (m : Option JobIx) : Work :=
  { w with p := { w.p with
      slotMap := is.foldl (fun v i => v.set i.val m i.isLt) w.p.slotMap } }

/-- The IDLE slots of a range that the named job admits (R67, R68). -/
def Part.admissible (p : Part) (is : List SlotIx) (m : Option JobIx) : List SlotIx :=
  match m with
  | none => []
  | some j =>
    if (p.job j).state.admits then is.filter (fun i => decide ((p.slot i).state = .idle)) else []

/-- ASSIGN_SLOTS checked and executed (R68). -/
def Work.assignSlots (w : Work) (c : CommandCell) : Work :=
  let first := c.slot.toNat
  let count := c.slotCount.toNat
  match assignedJob c.job with
  | none => w.refuse c .badJobNumber
  | some m =>
    if count = 0 ∨ 256 < first + count then w.refuse c .badSlot
    else
      let is := slotRange first count
      match is.find? (w.p.busyFor m) with
      | some i => w.endCommand c .slotBusy (BitVec.ofNat 32 i.val) 0
      | none =>
        let admitted := w.p.admissible is m
        let w1 := w.setMap is m
        let w2 := match m with
          | none => w1
          | some j => w1.admitAll j admitted
        (w2.endCommand c .done (BitVec.ofNat 32 admitted.length) 0).reportCommandJobs

/-- ASSIGN_SLOTS (R68). -/
def execAssignSlots (s : State) : Host.Outcome State Fault Refusal :=
  onCommand s codeAssignSlots (fun c w => w.assignSlots c)

/-- SET_FILTER: the record offset is checked and the read starts (R64). -/
def Work.setFilter (w : Work) (c : CommandCell) : Work :=
  if areaFits w.p.straps c.param0.toNat 72 then w.setUnit (.readingFilter c c.param0.toNat)
  else w.badRecord c .areaRange 0

/-- SET_FILTER (R64). -/
def execSetFilter (s : State) : Host.Outcome State Fault Refusal :=
  onCommand s codeSetFilter (fun c w => w.setFilter c)

/-- FILTER_RECORD_READ_DONE: entries and mask replace the old ones together (R64); a read error
refuses the command (R173). -/
def execFilterRecordReadDone (error : Bool) (host : List Host.Cell) (s : State) :
    Host.Outcome State Fault Refusal :=
  hosted s host (fun s =>
    match s.part.command with
    | .readingFilter c a =>
      run s (fun w =>
        if error then w.areaError c 0
        else
          ({ w with p := { w.p with filter := readFilter s.mem a } } : Work).endCommand c .done 0 0)
    | _ => .next s)

/-- EJECT_SLOT checked and executed: a non-terminal life that holds no pending end takes OPERATOR, and
nothing changes for any other slot (R73). -/
def Work.ejectSlot (w : Work) (c : CommandCell) : Work :=
  match slotOfNat c.slot.toNat with
  | none => w.refuse c .badSlot
  | some i =>
    let x := w.p.slot i
    let w1 := if x.state.live && decide (x.pendingEnd = .none)
      then (w.takeEnd i .operator).memberTests x.member else w
    (w1.endCommand c .done 0 0).reportCommandJobs

/-- EJECT_SLOT (R73). -/
def execEjectSlot (s : State) : Host.Outcome State Fault Refusal :=
  onCommand s codeEjectSlot (fun c w => w.ejectSlot c)

/-- SET_INDICATOR checked and executed (R80). -/
def Work.setIndicator (w : Work) (c : CommandCell) : Work :=
  match slotOfNat c.slot.toNat with
  | none => w.refuse c .badSlot
  | some i =>
    match overrideOf c.param0.toNat with
    | none => w.badRecord c .indicatorMode 0
    | some o =>
      ((w.modSlot i (fun s => { s with override := o })).refreshLamp i).endCommand c .done 0 0

/-- SET_INDICATOR (R80). -/
def execSetIndicator (s : State) : Host.Outcome State Fault Refusal :=
  onCommand s codeSetIndicator (fun c w => w.setIndicator c)

/-- Every slot's desired indicator recomputed (R78, R79). -/
def Work.refreshAllLamps (w : Work) : Work := allSlots.foldl (fun w i => w.refreshLamp i) w

/-- BLINK_PHASE_TOGGLE: every slot's desired indicator is recomputed in the phase of the time base
(R78). -/
def execBlinkPhaseToggle (s : State) : Host.Outcome State Fault Refusal :=
  run s Work.refreshAllLamps

/-! ### Notices and ends -/

/-- The lane takes notices: it is UP (R125). -/
def Part.takesNotices (p : Part) (i : SlotIx) : Bool :=
  decide ((p.lane (laneOf i)).state = .up)

/-- ATTACH_NOTICE (R57, R125). -/
def execAttachNotice (i : SlotIx) (s : State) : Host.Outcome State Fault Refusal :=
  guarded (s.part.takesNotices i) s (fun w => w.attach i)

/-- DETACH_NOTICE (R74, R125). -/
def execDetachNotice (i : SlotIx) (s : State) : Host.Outcome State Fault Refusal :=
  guarded (s.part.takesNotices i) s (fun w => w.detach i)

/-- ATTACH_RELEASE: a waiting attach whose slot's outcome is written (R58; log entry 6). -/
def execAttachRelease (i : SlotIx) (s : State) : Host.Outcome State Fault Refusal :=
  guarded (s.part.releaseDue i) s (fun w => w.releaseAttach i)

/-- A pending end is due: it is set and no stick transaction is in flight (R72). -/
def Part.endDue (p : Part) (i : SlotIx) : Bool :=
  decide ((p.slot i).pendingEnd ≠ .none) && !p.stickInFlight i

/-- PENDING_END_APPLY (R49, R72; log entry 6). -/
def execPendingEndApply (i : SlotIx) (s : State) : Host.Outcome State Fault Refusal :=
  guarded (s.part.endDue i) s (fun w => (w.applyEnd i).memberTests (w.p.slot i).member)

end Sys2Proof.Machine
end

