-- ==== Sys2Proof/Machine/Settings.lean ====
section
/-! DEFINITION. APPLY_SETTINGS: the read of the settings record, and the judging of a changed outcome
list (R161, R174). -/

namespace Sys2Proof.Machine

/-- APPLY_SETTINGS: the read of the settings record starts (R174). -/
def execApplySettings (s : State) : Host.Outcome State Fault Refusal :=
  onCommand s codeApplySettings (fun c w => w.setUnit (.readingSettings c))

/-- The slots that a shorter settle time takes to ENUMERATING at once, in every engine state (R59). -/
def Work.settleNow (w : Work) : Work :=
  allSlots.foldl (fun w i => if w.p.settled i then w.enterEnumerating i else w) w

/-- The settings are taken together (R174): a changed scan interval restarts the scan timer (R170),
settled slots enumerate (R59), and a change of the indicators setting recomputes every indicator
(R79). -/
def Work.takeSettings (w : Work) (c : CommandCell) (n : SettingsSnapshot) : Work :=
  let old := w.p.settings
  let w1 : Work := { w with p := { w.p with
    settings := n.settings,
    scanTimer := if n.settings.scanInterval = old.scanInterval then w.p.scanTimer else 0,
    outcomes := { w.p.outcomes with offset := n.offset, capacity := n.capacity } } }
  let w2 := w1.settleNow
  let w3 := if n.settings.indicators = old.indicators then w2 else w2.refreshAllLamps
  w3.judgeWaiting.endCommand c (if n.mask = 0 then .done else .doneClamped)
    (BitVec.ofNat 32 n.mask) 0

/-- SETTINGS_RECORD_READ_DONE: a read error refuses the command (R173); an unchanged outcome list
needs no judging (R174). -/
def execSettingsRecordReadDone (error : Bool) (host : List Host.Cell) (s : State) :
    Host.Outcome State Fault Refusal :=
  hosted s host (fun s =>
    match s.part.command with
    | .readingSettings c =>
      run s (fun w =>
        if error then w.areaError c 0
        else
          let n := readSettings s.mem
          if n.capacity = w.p.outcomes.capacity ∧ n.offset = w.p.outcomes.offset then
            w.takeSettings c n
          else w.setUnit (.judgingList c n))
    | _ => .next s)

/-- The areas of a job that is not VACANT: staging, then digest list (R12). -/
def Job.liveAreas (c : Job) : List (Nat × Nat) :=
  if c.state = .vacant then []
  else [(c.record.stagingOffset, stagingBytes c.chunkSize c.record.depth),
        (c.record.digestOffset, digestBytes c.chunks)]

/-- The live areas of the jobs but one, in ascending job number, each with the job's number (R12). -/
def Part.liveAreas (p : Part) (skip : Option JobIx) : List (Nat × Nat × Nat) :=
  (allJobs.filter (fun j => decide (some j ≠ skip))).flatMap
    (fun j => (p.job j).liveAreas.map (fun a => (j.val, a.1, a.2)))

/-- The first area of a list that an area overlaps, by its number in the conflict's word 2 (R12,
R174). -/
def firstOverlap (offset bytes : Nat) (areas : List (Nat × Nat × Nat)) : Option Nat :=
  (areas.find? (fun a => overlaps offset bytes a.2.1 a.2.2)).map (·.1)

/-- A changed outcome list judged for room, range and overlap (R161, R174). -/
def Work.judgeList (w : Work) (c : CommandCell) (n : SettingsSnapshot) : Work :=
  if w.p.outcomes.unconsumed ≠ 0 then w.refuse c .wrongState
  else if n.capacity = 0 then w.takeSettings c n
  else if areaFits w.p.straps n.offset (128 * n.capacity) then
    match firstOverlap n.offset (128 * n.capacity) ((6, 0, 4096) :: w.p.liveAreas none) with
    | some k => w.endCommand c .areaConflict 5 (BitVec.ofNat 32 k)
    | none => w.takeSettings c n
  else w.badRecord c .areaRange 4

/-- OUTCOME_LIST_CHANGE_JUDGE: made once no record write is in flight (R161). -/
def execOutcomeListChangeJudge (s : State) : Host.Outcome State Fault Refusal :=
  match s.part.command with
  | .judgingList c n =>
    guarded (decide (s.part.outcomes.writing = none)) s (fun w => w.judgeList c n)
  | _ => .next s

end Sys2Proof.Machine
end

