-- ==== Sys2Proof/Machine/Jobs.lean ====
section
/-! DEFINITION. Job contexts: DEFINE_JOB (R9 to R13), the job commands (R17 to R24), START_PASS (R28,
R29), and the job transitions of the table. -/

namespace Sys2Proof.Machine

/-! ### DEFINE_JOB -/

/-- DEFINE_JOB: job number, job state and record offset checked, in that order (R9). -/
def Work.defineJob (w : Work) (c : CommandCell) : Work :=
  match jobOfByte c.job with
  | none => w.refuse c .badJobNumber
  | some j =>
    if (w.p.job j).state ≠ .vacant then w.refuse c .wrongState
    else if areaFits w.p.straps c.param0.toNat 64 then
      w.setUnit (.readingJobRecord c j c.param0.toNat)
    else w.badRecord c .areaRange 0

/-- DEFINE_JOB (R9). -/
def execDefineJob (s : State) : Host.Outcome State Fault Refusal :=
  onCommand s codeDefineJob (fun c w => w.defineJob c)

/-- The fields of a job record checked in the order of R10; a refusal gives its detail and result
word 2. -/
def checkRecord (straps : Straps) (r : RawRecord) : Except (Detail × Word) JobRecord :=
  if r.k < 7 ∨ 11 < r.k then .error (.chunkSize, 0)
  else if r.depth < 2 ∨ 64 < r.depth then .error (.windowDepth, 0)
  else if r.extentCount < 1 ∨ 1024 < r.extentCount then .error (.extentCount, 0)
  else match lagPolicyOf r.policy with
  | none => .error (.policy, 0)
  | some policy =>
    if r.priority < 1 ∨ 3 < r.priority then .error (.priority, 0)
    else match verifyModeOf r.verify with
    | none => .error (.verifyMode, 0)
    | some verify =>
      match probeModeOf r.probe with
      | none => .error (.probeMode, 0)
      | some probe =>
        if !areaFits straps r.extentOffset (16 * r.extentCount) then .error (.areaRange, 1)
        else if !areaFits straps r.stagingOffset (stagingBytes (2 ^ r.k) r.depth) then
          .error (.areaRange, 2)
        else .ok { stagingOffset := r.stagingOffset, digestOffset := r.digestOffset,
                   floor := r.floor, lagHold := r.lagHold, k := r.k, depth := r.depth, policy,
                   verify, probe, fill := r.fill, priority := r.priority }

/-- JOB_RECORD_READ_DONE: the snapshot is checked and the extent list read begins (R9, R10). -/
def execJobRecordReadDone (error : Bool) (host : List Host.Cell) (s : State) :
    Host.Outcome State Fault Refusal :=
  hosted s host (fun s =>
    match s.part.command with
    | .readingJobRecord c j a =>
      run s (fun w =>
        if error then w.areaError c 0
        else
          let r := readRecord s.mem a
          match checkRecord w.p.straps r with
          | .error (d, w2) => w.badRecord c d w2
          | .ok rec => w.setUnit (.readingExtents c j rec r.extentOffset r.extentCount []))
    | _ => .next s)

/-- An extent entry checked against the conditions of R4 in the order of its table; `stop` is the end
of the entry before it. -/
def checkExtent (stop : Option Nat) (e : Nat × Nat × Nat) : Except Detail Extent :=
  match extentKindOf e.2.2 with
  | none => .error .extentKind
  | some kind =>
    if e.2.1 = 0 then .error .extentEmpty
    else if 4294967295 < e.1 + e.2.1 then .error .imageSpan
    else if decide (e.1 < stop.getD 0) then .error .extentOrder
    else .ok { first := e.1, count := e.2.1, kind }

/-- The areas the new job's staging area is compared with, then those its digest list is compared
with (R12). -/
def Part.otherAreas (p : Part) (j : JobIx) (own : Nat × Nat) : List (Nat × Nat × Nat) :=
  (6, 0, 4096) ::
    ((if p.outcomes.capacity = 0 then [] else [(5, p.outcomes.offset, 128 * p.outcomes.capacity)]) ++
      (4, own.1, own.2) :: p.liveAreas (some j))

/-- The first conflict of the new job's areas: word 1 and word 2 (R12). -/
def Part.areaConflict (p : Part) (j : JobIx) (staging digest : Nat × Nat) :
    Option (Word × Word) :=
  match firstOverlap staging.1 staging.2 (p.otherAreas j digest) with
  | some k => some (2, BitVec.ofNat 32 k)
  | none =>
    match firstOverlap digest.1 digest.2 (p.otherAreas j staging) with
    | some k => some (3, BitVec.ofNat 32 k)
    | none => none

/-- The context that a successful definition leaves: STANDBY, geometry derived, pass number 0, staging
counts 0 (R5, R13, R26). -/
def Job.define (c : Job) (rec : JobRecord) (es : List Extent) (chunks : Nat) : Job :=
  { c with
    state := .standby, passActive := false, record := rec, extents := es, span := imageSpan es,
    chunkSize := 2 ^ rec.k, chunks := chunks, blocks := writtenTotal es, priority := rec.priority,
    passNo := 0, faultDetail := none, v := 0, p := 0, i := 0, f := 0, d := 0, lastSeen := none,
    intakeInFlight := false, lagTimer := 0, lagRunning := false, lagSpent := false,
    lagMarked := false }

/-- The chunk count of an image span (R5). -/
def chunkCount (span chunkSize : Nat) : Nat := (span + chunkSize - 1) / chunkSize

/-- The end of the extent read: geometry, digest list range, overlaps, and the definition (R11 to
R13). The job status entry of the definition already counts the slots it admits (DESIGN CHOICE, log
entry 24). -/
def Work.completeDefine (w : Work) (c : CommandCell) (j : JobIx) (rec : JobRecord)
    (es : List Extent) : Work :=
  let n := chunkCount (imageSpan es) (2 ^ rec.k)
  let staging := (rec.stagingOffset, stagingBytes (2 ^ rec.k) rec.depth)
  let digest := (rec.digestOffset, digestBytes n)
  if 1048576 < n then w.badRecord c .imageSpan 0
  else if !areaFits w.p.straps digest.1 digest.2 then w.badRecord c .areaRange 3
  else match w.p.areaConflict j staging digest with
  | some (w1, w2) => w.endCommand c .areaConflict w1 w2
  | none =>
    ((((w.modJob j (fun x => x.define rec es n)).jobChanged j).endCommand c .done
      (BitVec.ofNat 32 n) (BitVec.ofNat 32 (writtenTotal es))).admitAll j
        (w.p.idleMapped j)).reportCommandJobs

/-- EXTENT_ENTRY_READ: an entry arrives, is checked and copied; the last one completes the definition
(R11). -/
def execExtentEntryRead (error : Bool) (host : List Host.Cell) (s : State) :
    Host.Outcome State Fault Refusal :=
  hosted s host (fun s =>
    match s.part.command with
    | .readingExtents c j rec listOffset count es =>
      run s (fun w =>
        if error then w.areaError c 1
        else
          let k := es.length
          match checkExtent (es.getLast?.map Extent.stop)
              (readExtent s.mem (listOffset + 16 * k)) with
          | .error d => w.badRecord c d (BitVec.ofNat 32 k)
          | .ok e =>
            if k + 1 < count then
              w.setUnit (.readingExtents c j rec listOffset count (es ++ [e]))
            else w.completeDefine c j rec (es ++ [e]))
    | _ => .next s)

/-! ### Job commands -/

/-- A job command on its job, or BAD_JOB_NUMBER (R17). -/
def Work.withJob (w : Work) (c : CommandCell) (g : JobIx → Work) : Work :=
  match jobOfByte c.job with
  | none => w.refuse c .badJobNumber
  | some j => g j

/-- The end of a job command that has its effect (R15, R17). -/
def Work.endJob (w : Work) (c : CommandCell) : Work :=
  (w.endCommand c .done 0 0).reportCommandJobs

/-- SET_PRIORITY checked and executed (R18; log entry 19). -/
def Work.setPriority (w : Work) (c : CommandCell) (j : JobIx) : Work :=
  let level := c.param0.toNat
  if (w.p.job j).state = .vacant then w.refuse c .wrongState
  else if level < 1 ∨ 3 < level then w.badRecord c .priority 0
  else (w.modJob j (fun x => { x with priority := level })).endCommand c .done 0 0

/-- SET_PRIORITY (R18). -/
def execSetPriority (s : State) : Host.Outcome State Fault Refusal :=
  onCommand s codeSetPriority (fun c w => w.withJob c (fun j => w.setPriority c j))

/-- The remembered state that PAUSE_JOB records (R19). -/
def JobState.remember : JobState → Option Remembered
  | .standby => some .standby
  | .running => some .running
  | _ => none

/-- PAUSE_JOB checked and executed: PAUSED at once with no DATA transaction in flight, else PAUSING
(R19). -/
def Work.pauseJob (w : Work) (c : CommandCell) (j : JobIx) : Work :=
  match (w.p.job j).state.remember with
  | none => w.refuse c .wrongState
  | some r =>
    let st := if w.p.dataInFlight j then .pausing else .paused
    (((w.modJob j (fun x => { x with remembered := r })).setJobState j st).evalLag j).endJob c

/-- PAUSE_JOB (R19). -/
def execPauseJob (s : State) : Host.Outcome State Fault Refusal :=
  onCommand s codePauseJob (fun c w => w.withJob c (fun j => w.pauseJob c j))

/-- RESUME_JOB checked and executed (R20). -/
def Work.resumeJob (w : Work) (c : CommandCell) (j : JobIx) : Work :=
  let x := w.p.job j
  if x.state = .pausing ∨ x.state = .paused then
    ((w.setJobState j x.remembered.jobState).evalLag j).endJob c
  else w.refuse c .wrongState

/-- RESUME_JOB (R20). -/
def execResumeJob (s : State) : Host.Outcome State Fault Refusal :=
  onCommand s codeResumeJob (fun c w => w.withJob c (fun j => w.resumeJob c j))

/-- CLOSE_JOB checked and executed: with no pass active the waiting members fail, and a job with
nothing to run down enters ENDED at once (R15, R21). -/
def Work.closeJob (w : Work) (c : CommandCell) (j : JobIx) : Work :=
  let x := w.p.job j
  if x.state = .standby ∨ x.state = .running then
    let w1 := w.setJobState j .closing
    let w2 := if x.passActive then w1 else w1.failWaiting j
    ((w2.evalLag j).testEnded j).endJob c
  else w.refuse c .wrongState

/-- CLOSE_JOB (R21). -/
def execCloseJob (s : State) : Host.Outcome State Fault Refusal :=
  onCommand s codeCloseJob (fun c w => w.withJob c (fun j => w.closeJob c j))

/-- The states in which ABORT_JOB takes a job to ABORTING (R22). -/
def JobState.abortable : JobState → Bool
  | .standby => true
  | .running => true
  | .pausing => true
  | .paused => true
  | .closing => true
  | _ => false

/-- ABORT_JOB checked and executed; in ABORTING it changes nothing (R22). -/
def Work.abortJob (w : Work) (c : CommandCell) (j : JobIx) : Work :=
  let x := w.p.job j
  if x.state.abortable then (w.enterAborting j .aborted).endJob c
  else if x.state = .aborting then w.endCommand c .done 0 0
  else w.refuse c .wrongState

/-- ABORT_JOB (R22). -/
def execAbortJob (s : State) : Host.Outcome State Fault Refusal :=
  onCommand s codeAbortJob (fun c w => w.withJob c (fun j => w.abortJob c j))

/-- The memberships of a job end; each such slot's mirror entry is written again without a cause (R24,
R55, R77). -/
def Work.endMemberships (w : Work) (j : JobIx) : Work :=
  allSlots.foldl (fun w i =>
    if (w.p.slot i).memberOf j then
      (w.modSlot i (fun s => { s with member := none })).touchSlot i
    else w) w

/-- RELEASE_JOB checked and executed (R24). -/
def Work.releaseJob (w : Work) (c : CommandCell) (j : JobIx) : Work :=
  if (w.p.job j).state = .ended then
    ((w.endMemberships j).setJobState j .vacant).endJob c
  else w.refuse c .wrongState

/-- RELEASE_JOB (R24). -/
def execReleaseJob (s : State) : Host.Outcome State Fault Refusal :=
  onCommand s codeReleaseJob (fun c w => w.withJob c (fun j => w.releaseJob c j))

/-! ### START_PASS -/

/-- The resume point with which a slot may join a pass that starts at s (R28). -/
def Slot.joinPoint (x : Slot) (j : JobIx) (s : Nat) : Option Nat :=
  if x.memberOf j then
    match x.state with
    | .ready => if s = 0 then some 0 else none
    | .deferred => if s ≤ x.writeChunk then some x.writeChunk else none
    | _ => none
  else none

/-- The members that join a pass that starts at s, with their resume points (R28, R29). -/
def Part.joiners (p : Part) (j : JobIx) (s : Nat) : List (SlotIx × Nat) :=
  allSlots.filterMap (fun i => ((p.slot i).joinPoint j s).map (fun r => (i, r)))

/-- The context as a pass starts at s (R29 steps 1 to 3). -/
def Job.beginPass (c : Job) (s : Nat) : Job :=
  { c with
    passNo := c.passNo + 1, v := s, i := s, f := s, p := s, lastSeen := none, lagTimer := 0,
    lagRunning := false, lagSpent := false, lagMarked := false, passActive := true }

/-- The members join in ascending slot order (R29 step 4). -/
def Work.joinAll (w : Work) (j : JobIx) (js : List (SlotIx × Nat)) : Work :=
  js.foldl (fun w x => w.join x.1 j x.2) w

/-- START_PASS checked and executed (R28, R29). -/
def Work.startPass (w : Work) (c : CommandCell) (j : JobIx) : Work :=
  let x := w.p.job j
  let s := c.param0.toNat
  let js := w.p.joiners j s
  if x.state ≠ .standby ∨ x.passNo = 65535 then w.refuse c .wrongState
  else if x.chunks ≤ s ∨ x.d < s then w.badRecord c .start 0
  else if js.isEmpty then w.refuse c .noSlots
  else
    let w1 := (w.modJob j (fun y => y.beginPass s)).joinAll j js
    let w2 := ((w1.recomputeRelease j).setJobState j .running).evalLag j
    (w2.endCommand c .done (BitVec.ofNat 32 (x.passNo + 1))
      (BitVec.ofNat 32 js.length)).reportCommandJobs

/-- START_PASS (R28, R29). -/
def execStartPass (s : State) : Host.Outcome State Fault Refusal :=
  onCommand s codeStartPass (fun c w => w.withJob c (fun j => w.startPass c j))

/-! ### Transitions of a job (log entry 6) -/

/-- JOB_PAUSED: the last DATA transaction in flight of a PAUSING job has ended (R19). -/
def execJobPaused (j : JobIx) (s : State) : Host.Outcome State Fault Refusal :=
  guarded (s.part.pausedDue j) s (fun w => w.setJobState j .paused)

/-- JOB_ENDED: a CLOSING or ABORTING job has no non-terminal member and no intake in flight (R21,
R22). -/
def execJobEnded (j : JobIx) (s : State) : Host.Outcome State Fault Refusal :=
  guarded (s.part.endedDue j) s (fun w => w.setJobState j .ended)

/-- PASS_END: the active set is empty and no intake is in flight; a CLOSING job may end with it
(R50). -/
def execPassEnd (j : JobIx) (s : State) : Host.Outcome State Fault Refusal :=
  guarded (s.part.passEndDue j) s (fun w => (w.endPass j).testEnded j)

end Sys2Proof.Machine
end

