-- ==== Sys2Proof/Machine/Staging.lean ====
section
/-! DEFINITION. The staging unit: publishing (R30 to R32), intake and the digest list (R33 to R39),
and the expiry of the lag hold timer (R48). -/

namespace Sys2Proof.Machine

/-! ### Publishing -/

/-- A publish value is taken: v, and P with it (R31, R32). -/
def Job.publish (c : Job) (value : Nat) : Job :=
  let c1 := { c with v := value }
  { c1 with p := c1.effective }

/-- The largest value a publish may have without overrun (R31). -/
def Job.publishLimit (c : Job) : Nat := min (c.f + c.record.depth) c.chunks

/-- A publish field handled by its tag and its value (R31). -/
def Work.handlePublish (w : Work) (j : JobIx) (tag : Half) (value : Word) : Work :=
  let c := w.p.job j
  let x := value.toNat
  if tag.toNat ≠ c.passNo then w
  else if x = c.v then w
  else if x < c.v then w.fault .publishBackwards j.val
  else
    let w1 := w.modJob j (fun c => c.publish x)
    let w2 := if (w1.p.job j).p = c.p then w1 else w1.touchJob j
    let w3 := if c.publishLimit < x then w2.fault .publishOverrun j.val else w2
    w3.evalLag j

/-- A publish field examined when the pass is active and it differs from the last one seen (R30). -/
def Work.examinePublish (w : Work) (j : JobIx) (field : Half × Word) : Work :=
  let c := w.p.job j
  if c.passActive && decide (c.lastSeen ≠ some field) then
    (w.modJob j (fun c => { c with lastSeen := some field })).handlePublish j field.1 field.2
  else w

/-- PUBLISH_FIELD_READ (R30, R31). -/
def execPublishFieldRead (j : JobIx) (error : Bool) (host : List Host.Cell) (s : State) :
    Host.Outcome State Fault Refusal :=
  hosted s host (fun s =>
    scanRead s (.publish j) error (fun w => w.examinePublish j (readPublish s.mem j)))

/-! ### Intake -/

/-- A chunk of the job is due for intake (R33). -/
def Part.intakeDue (p : Part) (j : JobIx) : Bool :=
  let c := p.job j
  c.passActive && !(p.activeSet j).isEmpty && decide (c.i < c.p) && !c.intakeInFlight

/-- The better of a choice so far and a job: higher level first, then lower number (R34). -/
def Part.betterJob (p : Part) (best : Option JobIx) (j : JobIx) : Option JobIx :=
  match best with
  | none => some j
  | some b => if (p.job b).priority < (p.job j).priority then some j else some b

/-- The job the digest unit chooses (R34). -/
def Part.chosenJob (p : Part) : Option JobIx :=
  (allJobs.filter p.intakeDue).foldl p.betterJob none

/-- The digest unit may choose: it is idle and the engine is enabled (R34, R52). -/
def Part.digestIdle (p : Part) : Bool := p.reports && decide (p.intake = none)

/-- An intake of the job begins: chunk I, a re-intake below D (R34). -/
def Work.beginIntake (w : Work) (j : JobIx) : Work :=
  let c := w.p.job j
  let w1 := w.modJob j (fun c => { c with intakeInFlight := true })
  { w1 with p := { w1.p with
      intake := some { job := j, chunk := c.i, crc := crcInit, reIntake := decide (c.i < c.d) } } }

/-- The digest unit arbitrates (R34). -/
def Work.arbitrate (w : Work) : Work :=
  if w.p.digestIdle then
    match w.p.chosenJob with
    | none => w
    | some j => w.beginIntake j
  else w

/-- INTAKE_START (R34). -/
def execIntakeStart (s : State) : Host.Outcome State Fault Refusal :=
  guarded (s.part.digestIdle && s.part.chosenJob.isSome) s Work.arbitrate

/-- Active slots waiting at chunk n are settled again as I passes it (R92). -/
def Work.settleWaiting (w : Work) (j : JobIx) (n : Nat) : Work :=
  allSlots.foldl (fun w i =>
    let s := w.p.slot i
    if w.p.active j i && decide (s.writeChunk = n) then
      w.placeCursor i j s.writeChunk s.writeOffset
    else w) w

/-- An intake completes: D, where it changes, and I become n + 1; waiting cursors settle (R39). -/
def Work.completeIntake (w : Work) (j : JobIx) (n : Nat) (first : Bool) : Work :=
  ((w.modJob j (fun c =>
    { c with i := n + 1, d := if first then n + 1 else c.d })).touchJob j).settleWaiting j n

/-- The digest entry of a chunk equals a computed CRC and class (R38). -/
def digestEqual (m : Memory) (offset : Nat) (crc : Word) (c : ChunkClass) : Bool :=
  decide (m.word offset = crc) && decide (m.value (offset + 4) 1 = c.code)

/-- The end of an intake that met no read error (R22, R37 to R39). -/
def Work.endIntake (w : Work) (m : Memory) (t : Intake) : Work :=
  let c := w.p.job t.job
  let crc := c.chunkCrc m t.chunk t.crc
  let cls := c.chunkClass t.chunk
  if c.state = .aborting then w
  else if t.reIntake then
    if digestEqual m (c.digestEntry t.chunk) crc cls then w.completeIntake t.job t.chunk false
    else w.enterAborting t.job .imageChanged
  else (w.put (c.digestEntry t.chunk) (digestBytesOf crc cls)).completeIntake t.job t.chunk true

/-- The digest unit becomes idle and the job's intake-in-flight flag clears. -/
def Work.clearIntake (w : Work) (j : JobIx) : Work :=
  let w1 := w.modJob j (fun c => { c with intakeInFlight := false })
  { w1 with p := { w1.p with intake := none } }

/-- The reads of an intake as reported can occur: the cell is read for a DATA chunk only, the digest
entry at a re-intake only (R35, R38). -/
def Part.intakeReadFits (p : Part) (t : Intake) (r : IntakeRead) : Bool :=
  match r with
  | .ok => true
  | .cellError => decide ((p.job t.job).chunkClass t.chunk = .data)
  | .digestError => t.reIntake

/-- The end of an intake by how its reads went (R35). -/
def Work.finishIntake (w : Work) (m : Memory) (t : Intake) (r : IntakeRead) : Work :=
  let w1 := w.clearIntake t.job
  let w2 := match r with
    | .ok => w1.endIntake m t
    | .cellError => w1.fault .areaRead 2
    | .digestError => w1.fault .areaRead 3
  (w2.jobTests t.job).arbitrate

/-- INTAKE_DONE (R35, R37 to R39). -/
def execIntakeDone (r : IntakeRead) (host : List Host.Cell) (s : State) :
    Host.Outcome State Fault Refusal :=
  hosted s host (fun s =>
    match s.part.intake with
    | none => .next s
    | some t => guarded (s.part.intakeReadFits t r) s (fun w => w.finishIntake s.mem t r))

/-! ### Lag expiry -/

/-- The lag hold timer of a job has expired: it runs and has reached the lag hold time (R47). -/
def Part.lagExpired (p : Part) (j : JobIx) : Bool :=
  (p.job j).lagRunning && decide ((p.job j).record.lagHold ≤ (p.job j).lagTimer)

/-- The mark a laggard takes under the job's policy (R48). -/
def LagPolicy.mark : LagPolicy → PendingEnd
  | .wait => .none
  | .defer => .defer
  | .fail => .laggard

/-- The expiry: timer stopped, spent mark set, every laggard marked that holds no pending end, in
ascending slot order (a DESIGN CHOICE, log entry 39); one with no stick transaction in flight ends its
marking at once (R48, R49). -/
def Work.expireLag (w : Work) (j : JobIx) : Work :=
  let e := (w.p.job j).record.policy.mark
  let marks := (w.p.laggards j).any (fun i => decide ((w.p.slot i).pendingEnd = .none))
  let w1 := (w.modJob j (fun c =>
    { c with lagRunning := false, lagSpent := true, lagMarked := marks })).touchJob j
  ((w.p.laggards j).foldl (fun w i => w.takeEnd i e) w1).jobTests j

/-- LAG_HOLD_TIMER_EXPIRY (R48). -/
def execLagHoldTimerExpiry (j : JobIx) (s : State) : Host.Outcome State Fault Refusal :=
  guarded (s.part.lagExpired j) s (fun w => w.expireLag j)

end Sys2Proof.Machine
end

