-- ==== Sys2Proof/Machine/Transactions.lean ====
section
/-! DEFINITION. Stick transactions: what a slot has ready (R69, R84, R85, R87, R93, R94, R97, R99),
the result classes (R104, R105), and the handling of results (R70, R81 to R88, R96 to R101, R106 to
R113). Lane timers and grants are in Lanes.lean. -/

namespace Sys2Proof.Machine

/-! ### What a slot has ready -/

/-- The probe points of a slot (R82). -/
def Part.pointsOf (p : Part) (j : JobIx) (s : Slot) : List Nat :=
  probePoints (p.job j).record.probe (match s.capacity with | none => 0 | some c => c.lastBlock.toNat)

/-- The next probe transaction (R84, R85, R87). -/
def probeRequest (points : List Nat) (q : ProbePosition) : DataRequest :=
  { kind := match q.phase with | .write => .probeWrite | .read => .probeRead | .scrub => .scrubWrite,
    first := points.getD q.index 0, count := 1 }

/-- The next transaction of a member in WRITING: the flush at chunk N, else a write of the run at the
cursor once the chunk is taken in (R42, R93, R94, R97). -/
def writeRequest (c : Job) (s : Slot) : Option DataRequest :=
  if c.chunks ≤ s.writeChunk then some { kind := .flush, first := 0, count := 0 }
  else if s.writeChunk < c.i then
    (c.runAt s.writeChunk s.writeOffset).map
      (fun r => { kind := .imageWrite, first := r.first, count := r.count })
  else none

/-- The next verify read (R99). -/
def verifyRequest (c : Job) (s : Slot) : Option DataRequest :=
  (c.runAt s.verifyChunk s.verifyOffset).map
    (fun r => { kind := .verifyRead, first := r.first, count := r.count })

/-- The next DATA transaction of a member by its state (R56, R69). -/
def Part.nextRequest (p : Part) (j : JobIx) (s : Slot) : Option DataRequest :=
  match s.state with
  | .sizing =>
    some { kind := if s.capacityNext then .capacity else .unitReady, first := 0, count := 0 }
  | .probing => s.probe.map (probeRequest (p.pointsOf j s))
  | .writing => writeRequest (p.job j) s
  | .verifying => verifyRequest (p.job j) s
  | _ => none

/-- The DATA transaction a slot has ready: no transaction in flight, no backoff, no recovery pending,
no pending end (R94, R97, R99). -/
def Part.dataReady (p : Part) (i : SlotIx) : Option (JobIx × DataRequest) :=
  let s := p.slot i
  match s.member with
  | none => none
  | some j =>
    if (p.placeOf i).isSome || s.backoff.isSome || p.isReady i .resetRecovery ||
        decide (s.pendingEnd ≠ .none) then none
    else (p.nextRequest j s).map (fun r => (j, r))

/-! ### The command block and the data of a transaction (R95, R104) -/

/-- The data bytes a transaction is expected to move (R104). -/
def DataRequest.expected (r : DataRequest) : Nat :=
  match r.kind with
  | .unitReady | .flush => 0
  | .capacity => 8
  | _ => 512 * r.count

/-- The data comes from the stick (R104). -/
def DataKind.fromStick : DataKind → Bool
  | .capacity => true
  | .probeRead => true
  | .verifyRead => true
  | _ => false

/-- A kind whose answer carries block data. -/
def DataKind.readsBlocks : DataKind → Bool
  | .probeRead => true
  | .verifyRead => true
  | _ => false

/-- The failure kind write (R106). -/
def DataKind.writeKind : DataKind → Bool
  | .probeWrite => true
  | .scrubWrite => true
  | .imageWrite => true
  | .flush => true
  | _ => false

/-- The command block sent for a DATA transaction (R104). -/
structure CommandBlock where
  tag : Word
  expected : Nat
  fromStick : Bool
  request : DataRequest
  deriving DecidableEq, Repr

/-- The command block of a place's transaction; CONTROL transactions have none (R104). -/
def Transaction.commandBlock (t : Transaction) : Option CommandBlock :=
  match t with
  | .data r tag =>
    some { tag := tag, expected := r.expected, fromStick := r.kind.fromStick, request := r }
  | _ => none

/-- The kind of the extent that holds a block (R93). -/
def Job.kindAt (c : Job) (a : Nat) : Option ExtentKind :=
  (c.extents.find? (fun e => decide (e.first ≤ a ∧ a < e.stop))).map (·.kind)

/-- The bytes of an image write: COPY data from the cell as the window holds it, or the fill byte
(R93, R95). -/
def Job.writeData (c : Job) (m : Memory) (n : Nat) (r : DataRequest) : List Byte :=
  match c.kindAt r.first with
  | some .copy => m.readBytes (c.blockOffset n r.first) (512 * r.count)
  | _ => List.replicate (512 * r.count) c.record.fill

/-- The bytes the part sends in the data stage of a slot's DATA transaction (R83, R87, R93, R104). -/
def Part.dataSent (p : Part) (m : Memory) (i : SlotIx) (r : DataRequest) : List Byte :=
  let s := p.slot i
  match r.kind with
  | .probeWrite => signatureBlock r.first i s.nonce
  | .scrubWrite => List.replicate 512 0
  | .imageWrite =>
    match s.member with
    | none => []
    | some j => (p.job j).writeData m s.writeChunk r
  | _ => []

/-! ### Result classes -/

/-- The result classes (R105). -/
inductive ResultClass where
  | good
  | short
  | notReady
  | medium
  | writeProtected
  | illegal
  | phase
  | stall
  | noResponse
  deriving DecidableEq, Repr

/-- The class a sense category gives (R105). -/
def senseClass : SenseCategory → ResultClass
  | .notReady => .notReady
  | .unitAttention => .notReady
  | .mediumFault => .medium
  | .hardwareFault => .medium
  | .writeProtected => .writeProtected
  | .illegalRequest => .illegal
  | .other => .medium

/-- The class a sense query gives (R105). -/
def sensedClass : SenseSeen → ResultClass
  | .stalled => .stall
  | .malformed => .phase
  | .replied status residue category =>
    if status = .passed ∧ residue = 0 then senseClass category else .phase

/-- The bytes moved in the data stage (R104). -/
def movedFor (a : DataAnswer) (r : DataRequest) : Nat :=
  if r.kind.readsBlocks then a.data.length else if r.expected = 0 then 0 else a.moved

/-- The class a status stage gives (R105). -/
def statusResult (a : DataAnswer) (r : DataRequest) (tag : Word) : ResultClass :=
  match a.status with
  | .stalled => .stall
  | .replied length marker replyTag residue status =>
    if length ≠ Config.statusLength ∨ marker ≠ Config.statusMarker ∨ replyTag ≠ tag then .phase
    else match status with
    | .phaseError => .phase
    | .passed => if residue = 0 ∧ movedFor a r = r.expected then .good else .short
    | .failed => sensedClass a.sense

/-- The result class of a DATA transaction: its first failing stage decides (R105). -/
def classify (a : DataAnswer) (r : DataRequest) (tag : Word) : ResultClass :=
  if a.commandStalled || a.dataStalled then .stall else statusResult a r tag

/-- An answer of which nothing arrived: an expiry, or a transaction stopped by the part. -/
def absentAnswer : DataAnswer :=
  { commandStalled := false, dataStalled := false, moved := 0, data := [], lastBlock := 0,
    blockLength := 0, status := .stalled, sense := .stalled }

/-! ### Failures -/

/-- The reason of a failure at the retry limit (R106). -/
def retryReason (r : DataKind) (c : ResultClass) : Reason :=
  match c with
  | .medium | .short => if r.writeKind then .writeError else .readError
  | _ => .unresponsive

/-- A counted failure is counted (R106). -/
def Work.countFailure (w : Work) (i : SlotIx) : Work :=
  w.modSlot i (fun s => { s with retries := s.retries + 1, stickErrors := s.stickErrors + 1 })

/-- A STALL, PHASE or NO_RESPONSE leaves the interface in an unknown condition (R110). -/
def ResultClass.needsRecovery : ResultClass → Bool
  | .stall => true
  | .phase => true
  | .noResponse => true
  | _ => false

/-- A counted failure: counted, tested against the retry limit and the error budget, then reissued,
after a reset recovery where the interface needs one (R106, R109, R110). -/
def Work.countedFailure (w : Work) (i : SlotIx) (k : DataKind) (c : ResultClass) : Work :=
  let w1 := w.countFailure i
  let s := w1.p.slot i
  if w.p.settings.retryLimit < s.retries then w1.fail i (retryReason k c)
  else if w.p.settings.errorBudget < s.stickErrors then w1.fail i .errorBudget
  else if c.needsRecovery then w1.request i .resetRecovery else w1

/-- A NOT_READY result: counted, failed above 50, else backed off (R69, R108). -/
def Work.notReadyResult (w : Work) (i : SlotIx) : Work :=
  let w1 := w.modSlot i (fun s => { s with notReady := s.notReady + 1 })
  if Config.notReadyLimit < (w1.p.slot i).notReady then w1.fail i .notReady
  else w1.modSlot i (fun s => { s with backoff := some 0 })

/-! ### GOOD results -/

/-- The signature of a point reads back intact for the slot (R83). -/
def Slot.intactAt (s : Slot) (i : SlotIx) (r : DataRequest) (data : List Byte) : Bool :=
  signatureIntact r.first i s.nonce data

/-- The data effect of a GOOD completion: counts, cursors and readings (R70, R72, R85, R96, R100); a
GOOD result sets the retry count to 0 (R107). -/
def Work.goodEffect (w : Work) (i : SlotIx) (j : JobIx) (r : DataRequest) (a : DataAnswer) : Work :=
  let w1 := w.modSlot i (fun s => { s with retries := 0 })
  let c := w.p.job j
  match r.kind with
  | .capacity => w1.modSlot i (fun s =>
      { s with capacity := some { lastBlock := a.lastBlock, blockLength := a.blockLength } })
  | .probeRead => w1.modSlot i (fun s =>
      { s with probe := s.probe.map (fun q =>
          if s.intactAt i r a.data then { q with intact := q.intact + 1 } else q) })
  | .imageWrite =>
    let n := (w.p.slot i).writeChunk
    ((w1.modSlot i (fun s => { s with written := s.written + r.count })).placeCursor i j n
      (r.first + r.count - c.chunkStart n)).updateProgress i
  | .verifyRead => (w1.modSlot i (fun s =>
      { s with verifyCrc := crcBytes s.verifyCrc a.data,
               verifyOffset := r.first + r.count - c.chunkStart s.verifyChunk,
               verified := s.verified + r.count })).updateProgress i
  | _ => w1

/-- A member enters PROBING: it takes a nonce and starts at its highest point (R81, R82). -/
def Work.enterProbing (w : Work) (i : SlotIx) (j : JobIx) : Work :=
  let n := (w.p.pointsOf j (w.p.slot i)).length
  let w1 := w.modSlot i (fun s =>
    { s with nonce := w.p.probeSequence,
             probe := some { count := n, phase := .write, index := n - 1, intact := 0 } })
  ({ w1 with p := { w1.p with probeSequence := w1.p.probeSequence + 1 } } : Work).enterState i
    .probing

/-- The capacity answer is checked: block length, claimed capacity, next state (R70). -/
def Work.checkCapacity (w : Work) (i : SlotIx) (j : JobIx) (a : DataAnswer) : Work :=
  let c := w.p.job j
  if a.blockLength ≠ 512 then w.fail i .blockSize
  else if a.lastBlock.toNat + 1 < max c.span c.record.floor then w.fail i .tooSmall
  else match c.record.probe with
  | .off => w.becomeReady i j
  | _ => w.enterProbing i j

/-- The probe position of a slot set. -/
def Work.setProbe (w : Work) (i : SlotIx) (q : ProbePosition) : Work :=
  w.modSlot i (fun s => { s with probe := some q })

/-- The scrub goes on at the first point to be scrubbed from index k, or the probe ends (R87, R88). -/
def Work.scrubFrom (w : Work) (i : SlotIx) (j : JobIx) (q : ProbePosition) (k : Nat) : Work :=
  match nextScrub (w.p.job j).extents (w.p.pointsOf j (w.p.slot i)) k with
  | some n => w.setProbe i { q with phase := .scrub, index := n }
  | none => w.becomeReady i j

/-- The honest estimate after an intact run (R86). -/
def honestEstimate (points : List Nat) (intact : Nat) : Nat :=
  if intact = 0 then 0 else points.getD (intact - 1) 0 + 1

/-- A point that is not intact: FAKE_CAPACITY with the honest estimate (R86). -/
def Work.fakeCapacity (w : Work) (i : SlotIx) (j : JobIx) (q : ProbePosition) : Work :=
  (w.modSlot i (fun s =>
    { s with honest := some (honestEstimate (w.p.pointsOf j s) q.intact) })).fail i .fakeCapacity

/-- A GOOD probe write: the next lower point, or the read phase (R84). -/
def Work.probeWritten (w : Work) (i : SlotIx) (q : ProbePosition) : Work :=
  if q.index = 0 then w.setProbe i { q with phase := .read }
  else w.setProbe i { q with index := q.index - 1 }

/-- A GOOD probe read judged; `q` is the position after the reading was recorded (R85). -/
def Work.probeJudged (w : Work) (i : SlotIx) (j : JobIx) (q : ProbePosition) (intact : Bool) : Work :=
  if intact then
    if q.index + 1 < q.count then w.setProbe i { q with index := q.index + 1 }
    else w.scrubFrom i j q 0
  else w.fakeCapacity i j q

/-- Writing is complete: VERIFYING with its cursor at the first non-VOID chunk, or PASSED (R98, R99). -/
def Work.finishWriting (w : Work) (i : SlotIx) (j : JobIx) : Work :=
  let c := w.p.job j
  match c.record.verify with
  | .none => w.terminal i .passed .none
  | .digest =>
    let v := c.settleVerify 0 0
    (w.modSlot i (fun s => { s with verifyChunk := v.1, verifyOffset := v.2, verifyCrc := crcInit })
      ).enterState i .verifying

/-- A chunk compares equal: the next chunk, or PASSED (R101). -/
def Work.chunkEqual (w : Work) (i : SlotIx) (j : JobIx) (n : Nat) : Work :=
  let c := w.p.job j
  let v := c.settleVerify (n + 1) 0
  let w1 := w.modSlot i (fun s =>
    { s with verifyChunk := v.1, verifyOffset := v.2, verifyCrc := crcInit })
  if c.chunks ≤ v.1 then w1.terminal i .passed .none else w1

/-- The digest entry of a chunk could not be read: the chunk is read back again (R101). -/
def Work.chunkAgain (w : Work) (i : SlotIx) (j : JobIx) (n : Nat) : Work :=
  let c := w.p.job j
  ((w.fault .areaRead 3).modSlot i (fun s =>
    { s with verifyCrc := crcInit, verifyChunk := n, verifyOffset := 0,
             verified := s.verified - writtenWithin c.extents (c.chunkStart n) (c.chunkStop n) }
    )).updateProgress i

/-- A completed chunk is compared with its digest entry (R101). -/
def Work.compareChunk (w : Work) (m : Memory) (i : SlotIx) (j : JobIx) (digestError : Bool) : Work :=
  let c := w.p.job j
  let s := w.p.slot i
  if c.moreIn s.verifyChunk s.verifyOffset then w
  else if digestError then w.chunkAgain i j s.verifyChunk
  else if m.word (c.digestEntry s.verifyChunk) = crcFinal s.verifyCrc then
    w.chunkEqual i j s.verifyChunk
  else (w.modSlot i (fun s => { s with firstBad := some s.verifyChunk })).fail i .verifyMismatch

/-- What follows a GOOD completion, after its data effect (R107). -/
def Work.goodProceed (w : Work) (m : Memory) (i : SlotIx) (j : JobIx) (r : DataRequest)
    (a : DataAnswer) (digestError : Bool) : Work :=
  let s := w.p.slot i
  match r.kind with
  | .unitReady => w.modSlot i (fun s => { s with capacityNext := true })
  | .capacity => w.checkCapacity i j a
  | .probeWrite =>
    match s.probe with
    | none => w
    | some q => w.probeWritten i q
  | .probeRead =>
    match s.probe with
    | none => w
    | some q => w.probeJudged i j q (s.intactAt i r a.data)
  | .scrubWrite =>
    match s.probe with
    | none => w
    | some q => w.scrubFrom i j q (q.index + 1)
  | .imageWrite => w
  | .flush => w.finishWriting i j
  | .verifyRead => w.compareChunk m i j digestError

/-! ### The end of a DATA transaction -/

/-- A result acted on (R85, R98, R105 to R113). -/
def Work.dataResult (w : Work) (m : Memory) (i : SlotIx) (j : JobIx) (r : DataRequest)
    (c : ResultClass) (a : DataAnswer) (digestError : Bool) : Work :=
  match c with
  | .good => (w.goodEffect i j r a).goodProceed m i j r a digestError
  | .notReady => w.notReadyResult i
  | .writeProtected => w.fail i .writeProtect
  | .illegal =>
    if r.kind = .flush then (w.goodEffect i j r a).goodProceed m i j r a digestError
    else w.fail i .unsupported
  | .medium | .short =>
    if r.kind = .probeRead then
      match (w.p.slot i).probe with
      | none => w
      | some q => w.fakeCapacity i j q
    else w.countedFailure i r.kind c
  | .phase | .stall | .noResponse => w.countedFailure i r.kind c

/-- The last result of a slot with a pending end: a GOOD completion takes its data effect, any other
is not acted on, and the end applies (R49, R72). No digest entry is read, so that no read error of one is
reported, where the last verify read of a chunk ends so (R102; DESIGN CHOICE, log entry 44). A flush that
ends ILLEGAL is such another result here and keeps the retry count (R98, R113; DESIGN CHOICE, log entry
38). -/
def Work.lastResult (w : Work) (i : SlotIx) (j : JobIx) (r : DataRequest) (c : ResultClass)
    (a : DataAnswer) : Work :=
  (if c = .good then w.goodEffect i j r a else w).applyEnd i

/-- The end of a DATA transaction, its place freed, handed to the slot sequencer (R133). -/
def Work.dataEnd (w : Work) (m : Memory) (i : SlotIx) (r : DataRequest) (c : ResultClass)
    (a : DataAnswer) (digestError : Bool) : Work :=
  match (w.p.slot i).member with
  | none => w
  | some j =>
    (if (w.p.slot i).pendingEnd = .none then w.dataResult m i j r c a digestError
     else w.lastResult i j r c a).jobTests j

/-! ### The end of an indicator request -/

/-- The end of an indicator request (R79): GOOD makes its value the last-sent one; any other end makes
it pending again unless a newer value waits or the desired value is the last-sent one. -/
def Work.lampEnd (w : Work) (i : SlotIx) (c : Lamp) (good : Bool) : Work :=
  let s := w.p.slot i
  if good then w.modSlot i (fun s => { s with lastSent := some c })
  else if s.pendingLamp.isSome || decide (s.lastSent = some s.desired) then w
  else w.pendLamp i c

end Sys2Proof.Machine
end

