-- ==== Sys2Proof/Machine/Ports.lean ====
section
/-! DEFINITION. Port power: the staged power-up (R149, R150), overcurrent and LOCKED ports (R152), the
lane-down notice (R151), and the expiry of the group interval. -/

namespace Sys2Proof.Machine

/-- The OFF ports of a board, ascending. -/
def Board.offPorts (b : Board) : List PortIx :=
  allPorts.filter (fun p => decide (b.ports.get p = .off))

/-- Ports of a board set to a power state. -/
def Board.setPorts (b : Board) (ps : List PortIx) (x : PortPower) : Board :=
  { b with ports := ps.foldl (fun v p => v.set p.val x p.isLt) b.ports }

/-- Port power on requests made ready in ascending port order (R130, R149). -/
def Work.requestPower (w : Work) (b : LaneIx) (ps : List PortIx) : Work :=
  ps.foldl (fun w p => w.request (slotOf b p) .portPowerOn) w

/-- A group of the staged power-up is taken: the lowest-numbered OFF ports become ON and their power
requests ready; the power-up goes on while an OFF port remains, for the interval read now (R148, R149,
R174). -/
def Work.takeGroup (w : Work) (b : LaneIx) : Work :=
  let ps := (w.p.board b).offPorts.take w.p.settings.groupSize
  (w.modBoard b (fun x =>
    let y := x.setPorts ps .on
    { y with staged := if y.offPorts.isEmpty then .idle
                       else .running 0 w.p.settings.groupInterval })).requestPower b ps

/-- A lane-up notice (R149): the staged power-up starts if the board is ON with an OFF port; a sagging
board takes its first group when the flag clears. -/
def Work.laneUpNotice (w : Work) (b : LaneIx) : Work :=
  let x := w.p.board b
  if x.state = .on ∧ x.offPorts ≠ [] then
    if x.sagging then w.modBoard b (fun x => { x with staged := .armed }) else w.takeGroup b
  else w

/-- The staged power-up becomes idle, and no power on request waits for the lane (R127, R147, R150). -/
def Work.endStaged (w : Work) (b : LaneIx) : Work :=
  w.modBoard b (fun x => { x with staged := .idle, waitingPower := 0 })

/-- The ports of a board whose power on request waits for the lane's entry into UP (R123, R138). -/
def Board.waitingPorts (b : Board) : List PortIx :=
  allPorts.filter (fun p => b.waitingPower.getLsbD p.val && decide (b.ports.get p = .on))

/-- The power on requests that waited for the lane's entry into UP are made ready (R123, R138; log
entry 12). -/
def Work.requestWaiting (w : Work) (b : LaneIx) : Work :=
  (w.modBoard b (fun x => { x with waitingPower := 0 })).requestPower b (w.p.board b).waitingPorts

/-- The attach-waiting flags of a board's slots clear (R58, R147, R151). -/
def Work.clearWaiting (w : Work) (b : LaneIx) : Work :=
  (laneSlots b).foldl (fun w i => w.modSlot i (fun s => { s with attachWaiting := false })) w

/-- A lane-down notice after a failed rebuild: every ON port becomes OFF in the record (R151). -/
def Work.laneDownNotice (w : Work) (b : LaneIx) : Work :=
  (w.modBoard b (fun x =>
    x.setPorts (allPorts.filter (fun p => decide (x.ports.get p = .on))) .off)).clearWaiting b

/-- The interval of the running group has passed: timer running, not stopped by a sag or a quiesce (R149,
R150, R174). -/
def Part.groupDue (p : Part) (b : LaneIx) : Bool :=
  p.reports && !(p.board b).sagging && (match (p.board b).staged with
    | .running t interval => decide (interval ≤ t)
    | _ => false)

/-- POWER_GROUP_INTERVAL_EXPIRY: the next group is taken, or the power-up is over (R149). -/
def execPowerGroupIntervalExpiry (b : LaneIx) (s : State) : Host.Outcome State Fault Refusal :=
  guarded (s.part.groupDue b) s (fun w => w.takeGroup b)

/-- Disowned: the end of a port power on request in flight is no longer acted on (R152 step 2). -/
def Place.disown (pl : Place) (port : PortIx) : Place :=
  if pl.port = port ∧ pl.transaction = .control .portPowerOn then { pl with disowned := true }
  else pl

/-- The port power on request in flight for a slot is disowned. -/
def Work.disownPower (w : Work) (i : SlotIx) : Work :=
  w.modLane (laneOf i) (fun l =>
    { l with places := Vector.ofFn (fun k => (l.places.get k).map (fun pl => pl.disown (portOf i))) })

/-- The transaction of a slot is abandoned at an overcurrent (R134), but for a port power on request,
which is left to end (R152 step 2). -/
def Work.freeButPowerOn (w : Work) (i : SlotIx) : Work :=
  w.modLane (laneOf i) (fun l =>
    l.freeWhere (portOf i) (fun pl => decide (pl.transaction ≠ .control .portPowerOn)))

/-- The power state of a slot's port set in the record. -/
def Work.setPort (w : Work) (i : SlotIx) (x : PortPower) : Work :=
  w.modBoard (laneOf i) (fun b => { b with ports := b.ports.set (portOf i).val x (portOf i).isLt })

/-- A slot's port is LOCKED. -/
def Part.portLocked (p : Part) (i : SlotIx) : Bool :=
  decide ((p.board (laneOf i)).ports.get (portOf i) = .locked)

/-- A port becomes LOCKED, whatever its record held: it is switched off, and a non-terminal life fails
(R152). An earlier power off request still ready stays so beside the new one (DESIGN CHOICE, log entry
42). -/
def Work.lockPort (w : Work) (i : SlotIx) : Work :=
  let m := (w.p.slot i).member
  let w1 := (w.setPort i .locked).modSlot i (fun s => { s with attachWaiting := false })
  let w2 := ((w1.withdraw i (fun k => decide (k = .portPowerOn))).disownPower i).request i
    .portPowerOff
  (((w2.freeButPowerOn i).loseService i .overcurrent).memberTests m).boardChanged (laneOf i)

/-- An overcurrent notice: one for a port that is LOCKED already changes nothing (R152). -/
def Work.overcurrent (w : Work) (i : SlotIx) : Work :=
  if w.p.portLocked i then w else w.lockPort i

/-- OVERCURRENT_NOTICE (R125, R152). -/
def execOvercurrentNotice (i : SlotIx) (s : State) : Host.Outcome State Fault Refusal :=
  guarded (s.part.takesNotices i) s (fun w => w.overcurrent i)

end Sys2Proof.Machine
end

