-- ==== Sys2Proof/Machine/Lanes.lean ====
section
/-! DEFINITION. Lanes: leaving UP (R118, R134, R136), bring-up and rebuild (R120 to R123, R137), the
port status scan (R126), the arbiter (R129 to R131), and the ends of transactions (R133, R135). -/

namespace Sys2Proof.Machine

/-! ### Leaving UP, and lane reset -/

/-- Every transaction of a lane is abandoned and its places freed (R134). -/
def Work.abandonAll (w : Work) (l : LaneIx) : Work :=
  w.modLane l (fun x => { x with places := Vector.replicate 4 none })

/-- The pending indicator requests of a lane's slots are discarded and their last-sent indicators
become unknown (R79). -/
def Work.discardLamps (w : Work) (l : LaneIx) : Work :=
  (laneSlots l).foldl (fun w i =>
    w.modSlot i (fun s => { s with pendingLamp := none, lastSent := none })) w

/-- The lane enters DOWN, its retry wait set or clear (R118, R120, R134, R150): everything ready on it is
handed back or discarded. One that a board loss finds DOWN already enters nothing, so that its indicator
requests stay as they are (R79, R147); the power requests of its ports are withdrawn (R147 step 3). That
this holds for the DOWN lane of an ON board too is a DESIGN CHOICE, log entry 47. -/
def Work.laneDown (w : Work) (l : LaneIx) (wait : Bool) : Work :=
  let down := decide ((w.p.lane l).state = .down)
  let w1 := ((w.modLane l (fun x => { x with
    state := .down, tree := none, retryWait := if wait then some 0 else none,
    ready := if down then x.ready.filter (fun r => !r.kind.isPower) else [] })).abandonAll l).endStaged l
  if down then w1 else (w1.discardLamps l).laneChanged l

/-- The jobs that have a non-terminal member on a lane. -/
def Part.jobsOn (p : Part) (l : LaneIx) : List JobIx :=
  allJobs.filter (fun j => (laneSlots l).any (fun i =>
    (p.slot i).memberOf j && (p.slot i).state.live))

/-- Every slot of a lane loses service, in ascending port order; then the tests of the jobs concerned
are made (R75, R136, R147; log entry 14). -/
def Work.loseAll (w : Work) (l : LaneIx) (r : Reason) : Work :=
  (w.p.jobsOn l).foldl (fun w j => w.jobTests j)
    ((laneSlots l).foldl (fun w i => w.loseService i r) w)

/-- The hub that a notice channel exchange is made with (R116, R121): the upper one, then the lower
ones. -/
def noticeHub (n : Fin 5) : Nat :=
  if n.val = 0 then upperHubAddress else lowerHubAddress n.val

/-- What an exchange asks of the tree (R121, R137): bus addresses by R116, and in step 5 the power state
that the record holds for the port: on for ON, off for OFF and LOCKED. -/
def TreeStep.request (t : TreeStep) (b : Board) : TreeRequest :=
  match t with
  | .rootPort => .resetRoot
  | .upperHub .address => .giveAddress upperHubAddress
  | .upperHub .describe => .describe upperHubAddress
  | .upperHub .configure => .configure upperHubAddress
  | .lowerHub u .power => .powerHubPort (u.val + 1)
  | .lowerHub u .reset => .resetHubPort (u.val + 1)
  | .lowerHub u .address => .giveAddress (lowerHubAddress (u.val + 1))
  | .lowerHub u .describe => .describe (lowerHubAddress (u.val + 1))
  | .lowerHub u .configure => .configure (lowerHubAddress (u.val + 1))
  | .noticeChannel n => .openNotices (noticeHub n)
  | .portPower p =>
    .setPower (lowerHubAddress (upperHubPort p)) (lowerHubPort p) (decide (b.ports.get p = .on))

/-- An exchange begins on a board's lane, its timer at 0 (R121). -/
def Board.beginExchange (b : Board) (t : TreeStep) (overcurrent : BitVec 16) : Tree :=
  { step := t, request := t.request b, timer := 0, overcurrent := overcurrent }

/-- A lane reset: entry into RESETTING (R136). -/
def Work.laneReset (w : Work) (l : LaneIx) (f : LaneFault) : Work :=
  let w1 := (w.modLane l (fun x => { x with
    state := .resetting, resets := min (x.resets + 1) 65535, fault := f,
    ready := x.ready.filter (fun r => !r.kind.isPower),
    tree := some ((w.p.board l).beginExchange .rootPort 0) })).abandonAll l
  ((w1.endStaged l).loseAll l .laneReset).laneChanged l

/-- HUB_LOSS: an UP lane loses a hub; `hubPort` is 0 at the root port (R125, R136). -/
def execHubLoss (l : LaneIx) (hubPort : Fin 5) (s : State) : Host.Outcome State Fault Refusal :=
  guarded (decide ((s.part.lane l).state = .up)) s
    (fun w => w.laneReset l { kind := .hubLost, hubPort := hubPort.val })

/-! ### Bring-up and rebuild -/

/-- RETRY_WAIT_EXPIRY (R120). -/
def execRetryWaitExpiry (l : LaneIx) (s : State) : Host.Outcome State Fault Refusal :=
  guarded (s.part.reports && (match (s.part.lane l).retryWait with
      | none => false
      | some t => decide (Config.retryWait ≤ t))) s
    (fun w => w.modLane l (fun x => { x with retryWait := none }))

/-- A lane may begin a bring-up (R120). -/
def Part.bringUpDue (p : Part) (l : LaneIx) : Bool :=
  decide ((p.lane l).state = .down) && p.reports && decide ((p.board l).state = .on) &&
    decide ((p.lane l).retryWait = none)

/-- BRING_UP_START (R120, R121). -/
def execBringUpStart (l : LaneIx) (s : State) : Host.Outcome State Fault Refusal :=
  guarded (s.part.bringUpDue l) s (fun w =>
    (w.modLane l (fun x => { x with
      state := .bringingUp, tree := some ((w.p.board l).beginExchange .rootPort 0) })).laneChanged l)

/-- The exchange after one that ended with success; none after the last (R121). -/
def TreeStep.succ : TreeStep → Option TreeStep
  | .rootPort => some (.upperHub .address)
  | .upperHub .address => some (.upperHub .describe)
  | .upperHub .describe => some (.upperHub .configure)
  | .upperHub .configure => some (.lowerHub 0 .power)
  | .lowerHub u .power => some (.lowerHub u .reset)
  | .lowerHub u .reset => some (.lowerHub u .address)
  | .lowerHub u .address => some (.lowerHub u .describe)
  | .lowerHub u .describe => some (.lowerHub u .configure)
  | .lowerHub u .configure =>
    if u.val = 3 then some (.noticeChannel 0) else some (.lowerHub (u + 1) .power)
  | .noticeChannel n => if n.val = 4 then some (.portPower 0) else some (.noticeChannel (n + 1))
  | .portPower p => if p.val = 15 then none else some (.portPower (p + 1))

/-- The fault of an exchange that did not end with success (R121, R122; steps 4 and 5: log
entry 18). -/
def TreeStep.fault : TreeStep → LaneFault
  | .rootPort => { kind := .rootPort, hubPort := 0 }
  | .upperHub _ => { kind := .upperHub, hubPort := 0 }
  | .lowerHub u _ => { kind := .lowerHub, hubPort := u.val + 1 }
  | .noticeChannel n =>
    if n.val = 0 then { kind := .upperHub, hubPort := 0 }
    else { kind := .lowerHub, hubPort := n.val }
  | .portPower p => { kind := .lowerHub, hubPort := upperHubPort p }

/-- Whether an exchange ended with success (R121); none where it cannot end so. An exchange ends by
its timeout only at 500 ms. -/
def Tree.success (t : Tree) (e : ExchangeEnd) : Option Bool :=
  match e with
  | .failed => some false
  | .timedOut => if Config.controlTimeout ≤ t.timer then some false else none
  | .described isHub ports power lamps =>
    match t.step with
    | .upperHub .describe => some (isHub && decide (ports = 4))
    | .lowerHub _ .describe => some (isHub && decide (ports = 4) && power && lamps)
    | _ => none
  | .configured _ =>
    match t.step with
    | .lowerHub _ .configure => some true
    | _ => none
  | .ok =>
    match t.step with
    | .upperHub .describe => none
    | .lowerHub _ .describe => none
    | .lowerHub _ .configure => none
    | _ => some true

/-- The ports that a configured lower hub reports in overcurrent, added to those known (R152). -/
def Tree.noteOvercurrent (t : Tree) (e : ExchangeEnd) : BitVec 16 :=
  match e, t.step with
  | .configured oc, .lowerHub u _ => t.overcurrent ||| (oc.setWidth 16 <<< (4 * u.val))
  | _, _ => t.overcurrent

/-- The overcurrents that the hubs held at their configuration, handed on in ascending port order
(R152). -/
def Work.heldOvercurrents (w : Work) (l : LaneIx) (held : BitVec 16) : Work :=
  (allPorts.filter (fun p => held.getLsbD p.val)).foldl (fun w p => w.overcurrent (slotOf l p)) w

/-- The port status scan at an entry into UP (R126). -/
def Work.portScan (w : Work) (l : LaneIx) (connected : BitVec 16) : Work :=
  allPorts.foldl (fun w p =>
    let i := slotOf l p
    if (w.p.slot i).state = .empty then
      if connected.getLsbD p.val then w.attach i else w
    else if connected.getLsbD p.val then w else w.detach i) w

/-- Every slot's last-sent indicator on the lane becomes unknown and its desired one pending (R79,
R121). The requests made ready here are ordered by port (R130); one that was ready before the entry into
UP keeps its earlier turn (DESIGN CHOICE, log entry 26). -/
def Work.unknownLamps (w : Work) (l : LaneIx) : Work :=
  (laneSlots l).foldl (fun w i =>
    (w.modSlot i (fun s => { s with lastSent := none })).refreshLamp i) w

/-- The lane enters UP (R121): health run and pointer cleared, indicators pending, lane-up notice, the
power on requests that waited (R123, R138), held overcurrents, port status scan. -/
def Work.laneUp (w : Work) (l : LaneIx) (held connected : BitVec 16) : Work :=
  let w1 := ((w.modLane l (fun x => { x with
    state := .up, tree := none, health := 0, pointer := 0 })).laneChanged l).unknownLamps l
  (((w1.laneUpNotice l).requestWaiting l).heldOvercurrents l held).portScan l connected

/-- The end of an exchange (R121, R122, R137): the next one, UP, or DOWN with the retry wait set; a
failed rebuild hands over a lane-down notice (R151). -/
def Work.exchangeEnd (w : Work) (l : LaneIx) (t : Tree) (e : ExchangeEnd) (connected : BitVec 16)
    (good rebuild : Bool) : Work :=
  if good then
    let held := t.noteOvercurrent e
    match t.step.succ with
    | some n => w.modLane l (fun x =>
        { x with tree := some ((w.p.board l).beginExchange n held) })
    | none => w.laneUp l held connected
  else
    let w1 := (w.modLane l (fun x => { x with fault := t.step.fault })).laneDown l true
    if rebuild then w1.laneDownNotice l else w1

/-- The exchange of a lane's bring-up or rebuild, with its success, if the lane is in the state and
the exchange can end so. -/
def Part.treeEnd (p : Part) (l : LaneIx) (st : LaneState) (e : ExchangeEnd) : Option (Tree × Bool) :=
  if (p.lane l).state = st then
    match (p.lane l).tree with
    | none => none
    | some t => (t.success e).map (fun g => (t, g))
  else none

/-- BRING_UP_EXCHANGE_END (R121, R122). -/
def execBringUpExchangeEnd (l : LaneIx) (e : ExchangeEnd) (connected : BitVec 16) (s : State) :
    Host.Outcome State Fault Refusal :=
  match s.part.treeEnd l .bringingUp e with
  | none => .next s
  | some (t, good) => run s (fun w => w.exchangeEnd l t e connected good false)

/-- REBUILD_EXCHANGE_END (R137). -/
def execRebuildExchangeEnd (l : LaneIx) (e : ExchangeEnd) (connected : BitVec 16) (s : State) :
    Host.Outcome State Fault Refusal :=
  match s.part.treeEnd l .resetting e with
  | none => .next s
  | some (t, good) => run s (fun w => w.exchangeEnd l t e connected good true)

/-! ### The arbiter -/

/-- The subclass of a CONTROL request (R128). -/
def ControlKind.subclass : ControlKind → Nat
  | .portPowerOn => 1
  | .portPowerOff => 1
  | .portReset => 1
  | .setAddress => 2
  | .readDescription => 2
  | .readSerial => 2
  | .selectConfiguration => 2
  | .resetRecovery => 2
  | .lamp => 3

/-- An indicator request of the lane is in flight (R129, R139). -/
def Lane.lampInFlight (l : Lane) : Bool :=
  l.placeList.any (fun o => match o with
    | some { transaction := .lamp _, .. } => true
    | _ => false)

/-- A ready CONTROL request that no hold keeps back (R129). -/
def Lane.unheld (l : Lane) (r : ReadyControl) : Bool :=
  (l.placeOf r.port).isNone && !(decide (r.kind = .lamp) && l.lampInFlight)

/-- The CONTROL request granted first: lowest subclass, then earliest ready (R130). -/
def Lane.controlChoice (l : Lane) : Option ReadyControl :=
  let pick := fun c => l.ready.find? (fun r => l.unheld r && decide (r.kind.subclass = c))
  match pick 1 with
  | some r => some r
  | none =>
    match pick 2 with
    | some r => some r
    | none => pick 3

/-- A job's DATA transactions are held in PAUSING, PAUSED and ABORTING (R16, R129). -/
def JobState.holdsData : JobState → Bool
  | .pausing => true
  | .paused => true
  | .aborting => true
  | _ => false

/-- The progress key of a member's transaction (R131). -/
def progressKey (c : Job) (s : Slot) : Nat :=
  match s.state with
  | .writing => if c.chunks ≤ s.writeChunk then c.chunks + 1 else s.writeChunk + 1
  | .verifying => c.chunks + 2 + s.verifyChunk
  | _ => 0

/-- A DATA candidate: slot, job, request, level, key. -/
structure Candidate where
  slot : SlotIx
  job : JobIx
  request : DataRequest
  level : Nat
  key : Nat
  deriving DecidableEq, Repr

/-- The DATA transaction of a slot as a candidate, unless a hold keeps it back: the job's state, or a
sag for writes and the flush (R129). -/
def Part.candidate (p : Part) (i : SlotIx) : Option Candidate :=
  match p.dataReady i with
  | none => none
  | some (j, r) =>
    if (p.job j).state.holdsData then none
    else if (p.board (laneOf i)).sagging && r.kind.writeKind then none
    else some { slot := i, job := j, request := r, level := (p.job j).priority,
                key := progressKey (p.job j) (p.slot i) }

/-- One candidate comes strictly before another: level, job number, progress key (R131). -/
def Candidate.before (a b : Candidate) : Bool :=
  if a.level = b.level then
    if a.job = b.job then decide (a.key < b.key) else decide (a.job.val < b.job.val)
  else decide (b.level < a.level)

/-- The better of a choice so far and a later candidate of the cyclic order. -/
def betterCandidate (best : Option Candidate) (c : Candidate) : Option Candidate :=
  match best with
  | none => some c
  | some b => if c.before b then some c else some b

/-- The ports of a lane in the cyclic order that starts at its pointer (R131). -/
def Lane.cyclicPorts (l : Lane) : List PortIx := allPorts.map (fun k => l.pointer + k)

/-- The DATA transaction granted first (R131). -/
def Part.dataChoice (p : Part) (l : LaneIx) : Option Candidate :=
  ((p.lane l).cyclicPorts.filterMap (fun q => p.candidate (slotOf l q))).foldl betterCandidate none

/-- The lowest-numbered empty place (log entry 10). -/
def Lane.emptyPlace (l : Lane) : Option (Fin 4) :=
  (List.finRange 4).find? (fun k => (l.places.get k).isNone)

/-- The bus address that a transaction for a port uses (R116, R124): the stick's for DATA and device
control, that of the port's lower hub for a hub port or indicator request. -/
def Transaction.address (t : Transaction) (port : PortIx) : Nat :=
  match t with
  | .data _ _ => stickAddress port
  | .lamp _ => lowerHubAddress (upperHubPort port)
  | .control k =>
    if k.subclass = 2 then stickAddress port else lowerHubAddress (upperHubPort port)

/-- A place of a lane taken by a transaction, its timer at 0 (R128, R132). -/
def Work.occupy (w : Work) (l : LaneIx) (k : Fin 4) (port : PortIx) (t : Transaction)
    (timeout : Nat) : Work :=
  let pl : Place :=
    { port := port, address := t.address port, transaction := t, timer := 0, timeout := timeout,
      disowned := false }
  w.modLane l (fun x => { x with places := x.places.set k.val (some pl) k.isLt })

/-- The transaction of a granted CONTROL request; an indicator request carries the slot's pending
value (R139). -/
def Part.controlTransaction (p : Part) (i : SlotIx) (k : ControlKind) : Transaction :=
  match k with
  | .lamp => .lamp ((p.slot i).pendingLamp.getD (p.slot i).desired)
  | _ => .control k

/-- A CONTROL request is granted (R129, R132, R139). -/
def Work.grantControl (w : Work) (l : LaneIx) (k : Fin 4) (r : ReadyControl) : Work :=
  let i := slotOf l r.port
  let w1 := (w.modLane l (fun x => { x with ready := x.ready.erase r })).occupy l k r.port
    (w.p.controlTransaction i r.kind) Config.controlTimeout
  if r.kind = .lamp then w1.modSlot i (fun s => { s with pendingLamp := none }) else w1

/-- A DATA transaction is granted: it takes the tag counter's value, and the pointer moves to the port
after it (R116, R131, R132; log entry 10). -/
def Work.grantData (w : Work) (l : LaneIx) (k : Fin 4) (c : Candidate) : Work :=
  (w.occupy l k (portOf c.slot) (.data c.request (w.p.lane l).tag)
    w.p.settings.dataTimeout).modLane l (fun x =>
      { x with tag := x.tag + 1, pointer := portOf c.slot + 1 })

/-- The lane's arbiter may grant: lane UP, engine enabled, board ON (R129). -/
def Part.mayGrant (p : Part) (l : LaneIx) : Bool :=
  decide ((p.lane l).state = .up) && p.reports && decide ((p.board l).state = .on)

/-- LANE_GRANT: one grant of an empty place, CONTROL before DATA (R129). -/
def execLaneGrant (l : LaneIx) (s : State) : Host.Outcome State Fault Refusal :=
  if s.part.mayGrant l then
    match (s.part.lane l).emptyPlace with
    | none => .next s
    | some k =>
      match (s.part.lane l).controlChoice with
      | some r => run s (fun w => w.grantControl l k r)
      | none =>
        match s.part.dataChoice l with
        | some c => run s (fun w => w.grantData l k c)
        | none => .next s
  else .next s

/-! ### Ends of CONTROL transactions -/

/-- Whether a CONTROL transaction ended GOOD; none where this answer cannot be its completion (R60,
R111, R127). -/
def controlGood (k : ControlKind) (a : ControlAnswer) : Option Bool :=
  match a with
  | .refused => some false
  | .good =>
    match k with
    | .readDescription => none
    | .readSerial => none
    | .resetRecovery => none
    | _ => some true
  | .disconnected => if k = .portReset then some false else none
  | .description _ _ _ _ => if k = .readDescription then some true else none
  | .serial _ => if k = .readSerial then some true else none
  | .recovery r i o => if k = .resetRecovery then some (r && i && o) else none

/-- The identity that a GOOD enumeration transaction brought is recorded (R60, R62). -/
def Work.recordIdentity (w : Work) (i : SlotIx) (a : ControlAnswer) : Work :=
  match a with
  | .description vendor product serialIndex ifaces => w.modSlot i (fun s =>
      { s with vendor := vendor, product := product, ifaces := ifaces,
               serial := if serialIndex = 0 then [] else s.serial,
               truncated := if serialIndex = 0 then false else s.truncated })
  | .serial chars => w.modSlot i (fun s => s.keepSerial chars)
  | _ => w

/-- The step after one that ended GOOD (R60, R63, R65). -/
def Work.nextStep (w : Work) (i : SlotIx) (k : ControlKind) (a : ControlAnswer) : Work :=
  match k with
  | .portReset => w.request i .setAddress
  | .setAddress => w.request i .readDescription
  | .readDescription =>
    match a with
    | .description _ _ serialIndex _ =>
      if serialIndex = 0 then w.classCheck i else w.request i .readSerial
    | _ => w
  | .readSerial => w.classCheck i
  | .selectConfiguration => w.filterDecision i
  | _ => w

/-- The end of a stick transaction of CONTROL class acted on: an enumeration step (R60, R61) or a
reset recovery (R110, R111). -/
def Work.stickControl (w : Work) (i : SlotIx) (k : ControlKind) (a : ControlAnswer) (good : Bool) :
    Work :=
  if k = .resetRecovery then
    if good then w else (w.fail i .unresponsive).memberTests (w.p.slot i).member
  else if good then (w.recordIdentity i a).nextStep i k a
  else w.attemptFailed i

/-- The last CONTROL transaction of a slot with a pending end (R72). -/
def Work.lastControl (w : Work) (i : SlotIx) (a : ControlAnswer) (good : Bool) : Work :=
  ((if good then w.recordIdentity i a else w).applyEnd i).memberTests (w.p.slot i).member

/-- A port power on request that ended: otherwise than GOOD, it locks the port (R148, R152); a disowned end
is not acted on. -/
def Work.powerEnd (w : Work) (i : SlotIx) (good disowned : Bool) : Work :=
  if good || disowned then w else w.lockPort i

/-- The end of a CONTROL transaction, its place freed, handed to the block that issued it (R133). A
port reset that finds the port disconnected is also a detach notice (R127), taken after the failed
attempt (R61) or, for a slot with a pending end, after that end has applied (R72): the order is a DESIGN
CHOICE, log entry 13. -/
def Work.controlEnd (w : Work) (i : SlotIx) (k : ControlKind) (a : ControlAnswer)
    (good disowned : Bool) : Work :=
  match k with
  | .portPowerOn => w.powerEnd i good disowned
  | .portPowerOff => w
  | _ =>
    let w1 :=
      if (w.p.slot i).pendingEnd = .none then w.stickControl i k a good else w.lastControl i a good
    if a = .disconnected then w1.detach i else w1

/-! ### Completions, expiries and late answers -/

/-- The health run count after the end of a transaction (R135). -/
def Work.healthGood (w : Work) (l : LaneIx) (good : Bool) : Work :=
  if good then w.modLane l (fun x => { x with health := 0 }) else w

/-- A completion handed on by what the place holds (R133); none where this answer cannot be its
completion. -/
def Work.complete (w : Work) (m : Memory) (i : SlotIx) (pl : Place) (a : Answer)
    (digestError : Bool) : Option Work :=
  match pl.transaction, a with
  | .data r tag, .data d =>
    let c := classify d r tag
    some (((w.free i).healthGood (laneOf i) (decide (c = .good))).dataEnd m i r c d digestError)
  | .lamp v, .control x =>
    match x with
    | .good => some (((w.free i).healthGood (laneOf i) true).lampEnd i v true)
    | .refused => some ((w.free i).lampEnd i v false)
    | _ => none
  | .control k, .control x =>
    (controlGood k x).map (fun good =>
      ((w.free i).healthGood (laneOf i) good).controlEnd i k x good pl.disowned)
  | _, _ => none

/-- TRANSACTION_COMPLETION (R133). -/
def execTransactionCompletion (i : SlotIx) (a : Answer) (digestError : Bool)
    (host : List Host.Cell) (s : State) : Host.Outcome State Fault Refusal :=
  hosted s host (fun s =>
    match s.part.placeOf i with
    | none => .next s
    | some pl =>
      match (Work.start s).complete s.mem i pl a digestError with
      | none => .next s
      | some w => .next (commit s w))

/-- One expiry more in the health run (R135). -/
def Work.healthExpired (w : Work) (l : LaneIx) : Work :=
  w.modLane l (fun x => { x with health := min (x.health + 1) Config.healthLimit })

/-- The health run of an UP lane has reached 8 (R135). -/
def Part.unhealthy (p : Part) (l : LaneIx) : Bool :=
  decide ((p.lane l).state = .up) && decide (Config.healthLimit ≤ (p.lane l).health)

/-- A lane whose health run has reached 8 is reset (R136). -/
def Work.testHealth (w : Work) (l : LaneIx) : Work :=
  if w.p.unhealthy l then w.laneReset l { kind := .health, hubPort := 0 } else w

/-- The expiry of a DATA transaction: NO_RESPONSE; one that resets the lane fails the slot with
LANE_RESET whatever its own counts and pending end hold (R110, R133; DESIGN CHOICE, log entry 15). -/
def Work.dataExpired (w : Work) (m : Memory) (i : SlotIx) (r : DataRequest) : Work :=
  if w.p.unhealthy (laneOf i) then
    if (w.p.slot i).pendingEnd = .none then w.countFailure i else w
  else w.dataEnd m i r .noResponse absentAnswer false

/-- The end of a transaction by expiry, its place freed and the expiry counted (R133). -/
def Work.expire (w : Work) (m : Memory) (i : SlotIx) (pl : Place) : Work :=
  let w1 := (w.free i).healthExpired (laneOf i)
  let w2 := match pl.transaction with
    | .data r _ => w1.dataExpired m i r
    | .lamp v => w1.lampEnd i v false
    | .control k => w1.controlEnd i k .refused false pl.disowned
  w2.testHealth (laneOf i)

/-- TRANSACTION_TIMER_EXPIRY (R132, R133). -/
def execTransactionTimerExpiry (i : SlotIx) (s : State) : Host.Outcome State Fault Refusal :=
  match s.part.placeOf i with
  | none => .next s
  | some pl => guarded (decide (pl.timeout ≤ pl.timer)) s (fun w => w.expire s.mem i pl)

/-- The DATA request in flight that a stale status reply ends: bulk answer, status stage, another tag
(R133). -/
def lateEnds (o : Option Place) (bulk : Bool) (tag : Word) (statusStage : Bool) :
    Option DataRequest :=
  match o with
  | some { transaction := .data r t, .. } => if bulk ∧ statusStage ∧ tag ≠ t then some r else none
  | _ => none

/-- LATE_ANSWER (R133): discarded, or a new DATA transaction in its status stage ends as PHASE. -/
def execLateAnswer (i : SlotIx) (bulk : Bool) (tag : Word) (statusStage : Bool) (s : State) :
    Host.Outcome State Fault Refusal :=
  match lateEnds (s.part.placeOf i) bulk tag statusStage with
  | none => .next s
  | some r => run s (fun w => (w.free i).dataEnd s.mem i r .phase absentAnswer false)

/-- The image write in flight of a slot that carries COPY data (R95). -/
def Part.copyWrite (p : Part) (i : SlotIx) : Option DataRequest :=
  match p.placeOf i, (p.slot i).member with
  | some { transaction := .data r _, .. }, some j =>
    if r.kind = .imageWrite ∧ (p.job j).kindAt r.first = some .copy then some r else none
  | _, _ => none

/-- COPY_DATA_READ_ERROR (R95): the transaction ends as PHASE, and AREA_READ is reported with area
code 2. -/
def execCopyDataReadError (i : SlotIx) (s : State) : Host.Outcome State Fault Refusal :=
  match s.part.copyWrite i with
  | none => .next s
  | some r =>
    run s (fun w =>
      ((w.free i).dataEnd s.mem i r .phase absentAnswer false).fault .areaRead 2)

end Sys2Proof.Machine
end

