-- ==== Sys2Proof/Machine/Boards.lean ====
section
/-! DEFINITION. Boards: the converter (R144), the rail levels (R145, R146), the loss of a board
(R147), and the commands RESTORE_BOARD (R154) and PORT_RESTORE (R155). -/

namespace Sys2Proof.Machine

/-! ### The converter -/

/-- A due time has been reached; a difference below half the range counts as reached (R144; log
entry 22). -/
def dueReached (now due : Word) : Bool := decide ((now - due).toNat < 2147483648)

/-- A board is due for a conversion (R144). -/
def Part.boardDue (p : Part) (b : LaneIx) : Bool :=
  match (p.board b).due with
  | none => false
  | some t => dueReached p.time t

/-- The period of a sampling mode in ms (R144). -/
def SamplingMode.period : SamplingMode → Word
  | .none => 0
  | .fast => 16
  | .quiet => 1024

/-- The due board that comes first in the cyclic order after the last board converted (R144). -/
def Part.nextBoard (p : Part) : Option LaneIx :=
  (allLanes.map (fun k => p.converter.last + 1 + k)).find? p.boardDue

/-- A conversion begins: the board is the last converted, and its due time moves on by its mode's
period (R144). -/
def Work.startConversion (w : Work) (b : LaneIx) : Work :=
  ({ w with p := { w.p with converter := { busy := some (b, 0), last := b } } } : Work).modBoard b
    (fun x => { x with due := some (w.p.time + x.mode.period) })

/-- CONVERSION_START: an idle converter takes the next due board (R144). -/
def execConversionStart (s : State) : Host.Outcome State Fault Refusal :=
  if s.part.converter.busy = none then
    match s.part.nextBoard with
    | none => .next s
    | some b => run s (fun w => w.startConversion b)
  else .next s

/-- The sag level S (R145). -/
def Part.sagLevel (p : Part) : Nat := p.settings.sagLevel

/-- The recovery level R = S + 2 (R145). -/
def Part.recoveryLevel (p : Part) : Nat := p.settings.sagLevel + 2

/-- A board enters LOST (R147): switch off, flags, counts and due time clear, every port OFF, attaches
and hub port requests withdrawn, the lane DOWN with its retry wait clear, and its lives fail
RAIL_LOST. -/
def Work.loseBoard (w : Work) (b : LaneIx) : Work :=
  let w1 := w.modBoard b (fun x =>
    { x.setPorts allPorts .off with
      state := .lost, switchOn := false, sagging := false, sagRun := 0, deadRun := 0, mode := .none,
      due := none, staged := .idle, waitingPower := 0 })
  ((((w1.clearWaiting b).laneDown b false).loseAll b .railLost).evalLags).boardChanged b

/-- A RAMPING board enters ON (R143, R145 step 3): run counts and flag clear, mode by its slots. -/
def Work.boardOn (w : Work) (b : LaneIx) : Work :=
  ((w.modBoard b (fun x =>
    { x with state := .on, sagging := false, sagRun := 0, deadRun := 0 })).refreshMode b).boardChanged b

/-- The sag flag after a sample on an ON board (R145 step 5): run count updated, level, R. -/
def sagAfter (was : Bool) (run level recovery : Nat) : Bool :=
  if was then decide (level < recovery) else decide (run = 4)

/-- The sag run count after a sample on an ON board (R145 step 4). -/
def sagRunAfter (run level sag : Nat) : Nat := if level ≤ sag then min (run + 1) 4 else 0

/-- A sample on an ON board (R145 steps 4 and 5, R146): a flag that changes stops or lets run on the
lag timers; one that clears lets an armed power-up take its first group (R149). -/
def Work.sampleOn (w : Work) (b : LaneIx) (level : Nat) : Work :=
  let x := w.p.board b
  let run := sagRunAfter x.sagRun level w.p.sagLevel
  let flag := sagAfter x.sagging run level w.p.recoveryLevel
  let w1 := w.modBoard b (fun x => { x with sagRun := run, sagging := flag })
  if flag = x.sagging then w1.touchBoard b
  else
    let w2 := w1.evalLags.boardChanged b
    if flag = false ∧ x.staged = .armed then w2.takeGroup b else w2

/-- The dead run count after a sample (R145 step 1). -/
def deadRunAfter (run level : Nat) : Nat := if level = 0 then min (run + 1) 4 else 0

/-- A conversion's result acts on its board, by the board's state at that moment (R145). -/
def Work.sample (w : Work) (b : LaneIx) (level : Nat) : Work :=
  let dead := deadRunAfter (w.p.board b).deadRun level
  let w1 := w.modBoard b (fun x => { x with level := level, deadRun := dead })
  match (w.p.board b).state with
  | .ramping =>
    if dead = 4 then w1.loseBoard b
    else if w.p.recoveryLevel ≤ level then w1.boardOn b
    else w1.touchBoard b
  | .on => if dead = 4 then w1.loseBoard b else w1.sampleOn b level
  | _ => w1.touchBoard b

/-- The conversion whose end may come: it has run its 1 ms (R144). -/
def Part.converted (p : Part) : Option LaneIx :=
  match p.converter.busy with
  | none => none
  | some (b, t) => if Config.conversionTime ≤ t then some b else none

/-- CONVERSION_DONE (R144, R145). -/
def execConversionDone (level : Fin 16) (s : State) : Host.Outcome State Fault Refusal :=
  match s.part.converted with
  | none => .next s
  | some b =>
    run s (fun w =>
      ({ w with p := { w.p with converter := { w.p.converter with busy := none } } } : Work).sample b
        level.val)

/-! ### Board and port commands -/

/-- RESTORE_BOARD executed (R154): the checks in their order, then RAMPING. -/
def Work.restoreBoard (w : Work) (c : CommandCell) : Work :=
  match boardOfNat c.param0.toNat with
  | none => w.refuse c .badSlot
  | some b =>
    match (w.p.board b).state with
    | .unfitted => w.refuse c .notFitted
    | .lost => (w.ramp b).endCommand c .done 0 0
    | _ => w.refuse c .wrongState

/-- RESTORE_BOARD (R154). -/
def execRestoreBoard (s : State) : Host.Outcome State Fault Refusal :=
  onCommand s codeRestoreBoard (fun c w => w.restoreBoard c)

/-- A board stands ON and not SAGGING (R155). -/
def Board.steady (b : Board) : Bool := decide (b.state = .on) && !b.sagging

/-- A power on request for a restored port (R155): ready on an UP lane; handed back as not made on
another, to be made at the entry into UP of a bring-up or rebuild under way (R123, R127, R138; log
entry 12). -/
def Work.powerOn (w : Work) (i : SlotIx) : Work :=
  match (w.p.lane (laneOf i)).state with
  | .up => w.request i .portPowerOn
  | .bringingUp | .resetting => w.modBoard (laneOf i) (fun x =>
      { x with waitingPower := x.waitingPower ||| (1#16 <<< (portOf i).val) })
  | _ => w

/-- A LOCKED port restored (R155): a terminal slot is emptied, the port is ON, and its power on request
is made. -/
def Work.restorePort (w : Work) (i : SlotIx) : Work :=
  let w1 := if (w.p.slot i).state.terminal then w.enterEmpty i else w
  ((w1.setPort i .on).powerOn i).boardChanged (laneOf i)

/-- PORT_RESTORE executed (R155): the checks in their order. -/
def Work.portRestore (w : Work) (c : CommandCell) : Work :=
  match slotOfNat c.slot.toNat with
  | none => w.refuse c .badSlot
  | some i =>
    if (w.p.board (laneOf i)).state = .unfitted then w.refuse c .notFitted
    else if (w.p.board (laneOf i)).steady then
      if w.p.portLocked i then ((w.restorePort i).endCommand c .done 0 0).reportCommandJobs
      else w.refuse c .wrongState
    else w.refuse c .railLow

/-- PORT_RESTORE (R155). -/
def execPortRestore (s : State) : Host.Outcome State Fault Refusal :=
  onCommand s codePortRestore (fun c w => w.portRestore c)

end Sys2Proof.Machine
end

