-- ==== Sys2Proof/Machine/Outcomes.lean ====
section
/-! DEFINITION. The outcome list: the start and the end of a record write (R158). -/

namespace Sys2Proof.Machine

/-- A record write may begin (R158): queue not empty, none in flight, room in the list, engine
enabled. -/
def Part.recordDue (p : Part) : Bool :=
  p.reports && decide (p.outcomes.writing = none) && !p.outcomes.full && !p.outcomes.queue.isEmpty

/-- The record write of the oldest record begins (R158). -/
def Work.beginRecord (w : Work) : Work :=
  { w with p := { w.p with outcomes :=
      { w.p.outcomes with writing := w.p.outcomes.queue.head?.map (·.outcome) } } }

/-- OUTCOME_RECORD_WRITE_START (R158). -/
def execOutcomeRecordWriteStart (s : State) : Host.Outcome State Fault Refusal :=
  guarded s.part.recordDue s Work.beginRecord

/-- The window offset of the next record: position written count mod K (R158). -/
def OutcomeUnit.position (o : OutcomeUnit) : Nat := o.offset + 128 * (o.written.toNat % o.capacity)

/-- The end of a record write (R158): the record stands in the window (log entry 20), the head leaves
the queue and the written count advances and is written; the slot's outcome-pending flag clears, which
releases a waiting attach (R58); OUTCOME_ADDED is raised. -/
def Work.endRecord (w : Work) (r : OutcomeRecord) : Work :=
  let o := w.p.outcomes
  let w1 := w.put o.position (outcomeBytes o.written r)
  let w2 : Work := { w1 with p := { w1.p with outcomes :=
    { o with queue := o.queue.tail, written := o.written + 1, writing := none } } }
  let w3 := (w2.put 0x110 (leBytes 4 (o.written + 1).toNat)).modSlot r.slot
    (fun s => { s with outcomePending := false })
  let w4 := if (w.p.slot r.slot).attachWaiting then w3.releaseAttach r.slot else w3
  (w4.raiseNow .outcomeAdded).judgeWaiting

/-- OUTCOME_RECORD_WRITE_DONE (R158, R162). -/
def execOutcomeRecordWriteDone (s : State) : Host.Outcome State Fault Refusal :=
  match s.part.outcomes.writing with
  | none => .next s
  | some r => run s (fun w => w.endRecord r)

end Sys2Proof.Machine
end

