-- ==== Sys2Proof/Machine/Dispatch.lean ====
section
/-! DEFINITION. One arm per command: the meaning it calls. -/

namespace Sys2Proof.Machine

/-- The effect of a command on everything but the queue. -/
def exec (i : Instr) (s : State) : Host.Outcome State Fault Refusal :=
  match i with
  | .powerOnReset straps => Sys2Proof.Machine.execPowerOnReset straps s
  | .pinReset straps => Sys2Proof.Machine.execPinReset straps s
  | .softReset enableBit => Sys2Proof.Machine.execSoftReset enableBit s
  | .enable => Sys2Proof.Machine.execEnable s
  | .quiesce => Sys2Proof.Machine.execQuiesce s
  | .engineQuiesced => Sys2Proof.Machine.execEngineQuiesced s
  | .attention value host => Sys2Proof.Machine.execAttention value host s
  | .causeClear value => Sys2Proof.Machine.execCauseClear value s
  | .causeEnableWrite value => Sys2Proof.Machine.execCauseEnableWrite value s
  | .registerWrite offset value => Sys2Proof.Machine.execRegisterWrite offset value s
  | .scanIntervalExpiry => Sys2Proof.Machine.execScanIntervalExpiry s
  | .commandCountRead error host => Sys2Proof.Machine.execCommandCountRead error host s
  | .publishFieldRead job error host => Sys2Proof.Machine.execPublishFieldRead job error host s
  | .consumedCountRead error host => Sys2Proof.Machine.execConsumedCountRead error host s
  | .applySettings => Sys2Proof.Machine.execApplySettings s
  | .settingsRecordReadDone error host => Sys2Proof.Machine.execSettingsRecordReadDone error host s
  | .outcomeListChangeJudge => Sys2Proof.Machine.execOutcomeListChangeJudge s
  | .unknownCommand => Sys2Proof.Machine.execUnknownCommand s
  | .defineJob => Sys2Proof.Machine.execDefineJob s
  | .jobRecordReadDone error host => Sys2Proof.Machine.execJobRecordReadDone error host s
  | .extentEntryRead error host => Sys2Proof.Machine.execExtentEntryRead error host s
  | .setPriority => Sys2Proof.Machine.execSetPriority s
  | .pauseJob => Sys2Proof.Machine.execPauseJob s
  | .resumeJob => Sys2Proof.Machine.execResumeJob s
  | .closeJob => Sys2Proof.Machine.execCloseJob s
  | .abortJob => Sys2Proof.Machine.execAbortJob s
  | .releaseJob => Sys2Proof.Machine.execReleaseJob s
  | .startPass => Sys2Proof.Machine.execStartPass s
  | .assignSlots => Sys2Proof.Machine.execAssignSlots s
  | .setFilter => Sys2Proof.Machine.execSetFilter s
  | .filterRecordReadDone error host => Sys2Proof.Machine.execFilterRecordReadDone error host s
  | .ejectSlot => Sys2Proof.Machine.execEjectSlot s
  | .setIndicator => Sys2Proof.Machine.execSetIndicator s
  | .restoreBoard => Sys2Proof.Machine.execRestoreBoard s
  | .portRestore => Sys2Proof.Machine.execPortRestore s
  | .intakeStart => Sys2Proof.Machine.execIntakeStart s
  | .intakeDone read host => Sys2Proof.Machine.execIntakeDone read host s
  | .jobPaused job => Sys2Proof.Machine.execJobPaused job s
  | .jobEnded job => Sys2Proof.Machine.execJobEnded job s
  | .passEnd job => Sys2Proof.Machine.execPassEnd job s
  | .lagHoldTimerExpiry job => Sys2Proof.Machine.execLagHoldTimerExpiry job s
  | .pendingEndApply slot => Sys2Proof.Machine.execPendingEndApply slot s
  | .attachNotice slot => Sys2Proof.Machine.execAttachNotice slot s
  | .detachNotice slot => Sys2Proof.Machine.execDetachNotice slot s
  | .overcurrentNotice slot => Sys2Proof.Machine.execOvercurrentNotice slot s
  | .hubLoss lane hubPort => Sys2Proof.Machine.execHubLoss lane hubPort s
  | .attachRelease slot => Sys2Proof.Machine.execAttachRelease slot s
  | .settleTimerExpiry slot => Sys2Proof.Machine.execSettleTimerExpiry slot s
  | .backoffTimerExpiry slot => Sys2Proof.Machine.execBackoffTimerExpiry slot s
  | .blinkPhaseToggle => Sys2Proof.Machine.execBlinkPhaseToggle s
  | .laneGrant lane => Sys2Proof.Machine.execLaneGrant lane s
  | .transactionCompletion slot answer digestError host => Sys2Proof.Machine.execTransactionCompletion slot answer digestError host s
  | .transactionTimerExpiry slot => Sys2Proof.Machine.execTransactionTimerExpiry slot s
  | .lateAnswer slot bulk tag statusStage => Sys2Proof.Machine.execLateAnswer slot bulk tag statusStage s
  | .retryWaitExpiry lane => Sys2Proof.Machine.execRetryWaitExpiry lane s
  | .bringUpStart lane => Sys2Proof.Machine.execBringUpStart lane s
  | .bringUpExchangeEnd lane result connected => Sys2Proof.Machine.execBringUpExchangeEnd lane result connected s
  | .rebuildExchangeEnd lane result connected => Sys2Proof.Machine.execRebuildExchangeEnd lane result connected s
  | .conversionStart => Sys2Proof.Machine.execConversionStart s
  | .conversionDone level => Sys2Proof.Machine.execConversionDone level s
  | .powerGroupIntervalExpiry board => Sys2Proof.Machine.execPowerGroupIntervalExpiry board s
  | .outcomeRecordWriteStart => Sys2Proof.Machine.execOutcomeRecordWriteStart s
  | .outcomeRecordWriteDone => Sys2Proof.Machine.execOutcomeRecordWriteDone s
  | .commandSnapshotReturn error host => Sys2Proof.Machine.execCommandSnapshotReturn error host s
  | .copyDataReadError slot => Sys2Proof.Machine.execCopyDataReadError slot s

end Sys2Proof.Machine
end

