-- ==== Sys2Proof/Machine/Tick.lean ====
section
/-! DEFINITION. One millisecond of the time base: what a step does on an empty queue (log entry 1).
Every running timer counts on, held at its limit until the command of its expiry is taken (log
entry 28); a stopped one keeps its value. -/

namespace Sys2Proof.Machine

/-- A timer one millisecond on, held at its limit. -/
def countOn (running : Bool) (limit t : Nat) : Nat := if running then min (t + 1) limit else t

/-- The settle and backoff timers of a slot (R59, R69): they stop at a quiesce. -/
def Slot.tick (reports : Bool) (s : Slot) : Slot :=
  { s with settle := countOn (reports && decide (s.state = .settling)) 1024 s.settle,
           backoff := s.backoff.map (countOn reports Config.backoff) }

/-- The lag hold timer of a job (R47). -/
def Job.tick (c : Job) : Job :=
  { c with lagTimer := countOn c.lagRunning c.record.lagHold c.lagTimer }

/-- A transaction timer (R132): it runs through a quiesce. -/
def Place.tick (pl : Place) : Place := { pl with timer := countOn true pl.timeout pl.timer }

/-- The timers of a lane: the retry wait stops at a quiesce (R120); the timers of an exchange and of
the transactions in flight run on (R123, R132, R138). -/
def Lane.tick (reports : Bool) (l : Lane) : Lane :=
  { l with retryWait := l.retryWait.map (countOn reports Config.retryWait),
           tree := l.tree.map (fun t =>
             { t with timer := countOn true Config.controlTimeout t.timer }),
           places := Vector.ofFn (fun k => (l.places.get k).map Place.tick) }

/-- The group interval timer of a board (R149, R150): stopped by a sag and by a quiesce. -/
def Board.tick (reports : Bool) (b : Board) : Board :=
  { b with staged := match b.staged with
      | .running t interval => .running (countOn (reports && !b.sagging) interval t) interval
      | x => x }

/-- The converter's time in its conversion (R144). -/
def Converter.tick (c : Converter) : Converter :=
  { c with busy := c.busy.map (fun x => (x.1, countOn true Config.conversionTime x.2)) }

/-- One millisecond for every timer of the part. The scan interval timer runs while the engine is
enabled, unless the interval is 0 (R170). -/
def Part.tick (p : Part) : Part :=
  { p with
    time := p.time + 1,
    scanTimer := countOn (p.reports && decide (p.settings.scanInterval ≠ 0)) 1000 p.scanTimer,
    slots := Vector.ofFn (fun i => (p.slot i).tick p.reports),
    jobs := Vector.ofFn (fun j => (p.job j).tick),
    lanes := Vector.ofFn (fun l => (p.lane l).tick p.reports),
    boards := Vector.ofFn (fun b => (p.board b).tick p.reports),
    converter := p.converter.tick }

/-- One millisecond in which no command is taken (log entry 1). -/
def tick (s : State) : State := { s with part := s.part.tick }

end Sys2Proof.Machine
end

