-- ==== Sys2Proof/WellFormed.lean ====
section
/-! DEFINITION. Which operands a command can have. The checks say what the outside can send; the
meanings answer for every operand, well formed or not. -/

namespace Sys2Proof

/-- Host writes lie in the largest image memory (R163): offsets below 1 GiB. -/
def hostInRange (ws : List Host.Cell) : Bool := ws.all (fun c => decide (c.1 < 1073741824))

/-- A register write that is a REGISTER_WRITE: not to the control, attention, cause or cause enable
register, each of which has commands of its own (R163, R179). -/
def registerReserved (offset : Nat) : Bool := !([0x04, 0x08, 0x0C, 0x10].contains offset)

/-- The data of a read are among the bytes moved (R104). -/
def DataAnswer.wf (a : DataAnswer) : Bool := decide (a.data.length ≤ a.moved)

/-- A completion's answer (R104). -/
def Answer.wf : Answer → Bool
  | .data a => a.wf
  | .control _ => true

/-- The host writes that land before a command (R169; log entry 3). -/
def Instr.host : Instr → List Host.Cell
  | .attention _ host => host
  | .commandCountRead _ host => host
  | .publishFieldRead _ _ host => host
  | .consumedCountRead _ host => host
  | .settingsRecordReadDone _ host => host
  | .jobRecordReadDone _ host => host
  | .extentEntryRead _ host => host
  | .filterRecordReadDone _ host => host
  | .intakeDone _ host => host
  | .commandSnapshotReturn _ host => host
  | .transactionCompletion _ _ _ host => host
  | _ => []

/-- The operands of a command can occur. -/
def Instr.wf (i : Instr) : Bool :=
  hostInRange i.host &&
    match i with
    | .registerWrite offset _ => registerReserved offset
    | .transactionCompletion _ answer _ _ => answer.wf
    | _ => true

end Sys2Proof
end

