-- ==== Sys2Proof/Safety.lean ====
section
/-! DEFINITION. What statements about the machine speak of: a safe step, the canonical memory, how a
host command has ended, what an event keeps, and the invariants. -/

namespace Sys2Proof.Machine

/-! ### Steps -/

/-- The memory of a state is in canonical form. -/
def State.wf (s : State) : Prop := s.mem.wf

/-- A step that stops neither with a fault nor with a refusal. -/
def StepSafe (s : State) : Prop := ∃ t, step s = .next t

/-- A run of steps that never stops, as far as it is looked at. -/
def RunSafe (n : Nat) (s : State) : Prop :=
  match n with
  | 0 => True
  | n + 1 => ∃ t, step s = .next t ∧ RunSafe n t

/-- A command that returns every block to its reset state (R167). -/
def isReset : Instr → Bool
  | .powerOnReset _ => true
  | .pinReset _ => true
  | .softReset _ => true
  | _ => false

/-- A job context after a reset: the context (R2), its staging state (R26), and the model's own fields
(log entries 9, 36). -/
def Job.AfterReset (c : Job) : Prop :=
  c.state = .vacant ∧ c.passActive = false ∧ c.extents = [] ∧
    c.record = { stagingOffset := 0, digestOffset := 0, floor := 0, lagHold := 0, k := 0, depth := 0,
                 policy := .wait, verify := .none, probe := .off, fill := 0, priority := 0 } ∧
    c.span = 0 ∧ c.chunkSize = 0 ∧ c.chunks = 0 ∧ c.blocks = 0 ∧ c.priority = 0 ∧ c.passNo = 0 ∧
    c.abortReason = .aborted ∧ c.faultDetail = none ∧ c.v = 0 ∧ c.p = 0 ∧ c.i = 0 ∧ c.f = 0 ∧
    c.d = 0 ∧ c.lastSeen = none ∧ c.intakeInFlight = false ∧ c.lagTimer = 0 ∧
    c.lagRunning = false ∧ c.lagSpent = false ∧ c.lagMarked = false ∧ c.remembered = .standby

/-- A slot record after a reset (R54, R81), and the model's own fields (log entries 9, 36). -/
def Slot.AfterReset (x : Slot) : Prop :=
  x.state = .empty ∧ x.member = none ∧ x.vendor = 0 ∧ x.product = 0 ∧ x.serial = [] ∧
    x.truncated = false ∧ x.capacity = none ∧ x.nonce = 0 ∧ x.probe = none ∧ x.writeChunk = 0 ∧
    x.writeOffset = 0 ∧ x.verifyChunk = 0 ∧ x.verifyOffset = 0 ∧ x.written = 0 ∧ x.verified = 0 ∧
    x.verifyCrc = 0 ∧ x.attempts = 0 ∧ x.retries = 0 ∧ x.stickErrors = 0 ∧ x.notReady = 0 ∧
    x.pendingEnd = .none ∧ x.outcomePending = false ∧ x.attachWaiting = false ∧ x.reason = .none ∧
    x.firstBad = none ∧ x.honest = none ∧ x.lifeStart = 0 ∧ x.settle = 0 ∧ x.backoff = none ∧
    x.override = .auto ∧ x.desired = .off ∧ x.lastSent = none ∧ x.pendingLamp = none ∧
    x.progress = 0 ∧ x.ifaces = [] ∧ x.iface = none ∧ x.capacityNext = false

/-- A lane after a reset that leaves these straps captured (R117). -/
def Lane.AfterReset (straps : Straps) (l : LaneIx) (x : Lane) : Prop :=
  x.state = (if l.val ≤ straps.lanes.toNat then .down else .absent) ∧ x.retryWait = none ∧
    (∀ k, x.places.get k = none) ∧ x.ready = [] ∧ x.pointer = 0 ∧ x.health = 0 ∧ x.resets = 0 ∧
    x.fault = { kind := .none, hubPort := 0 } ∧ x.tag = 0 ∧ x.tree = none

/-- A board after a reset that leaves these straps captured (R142). -/
def Board.AfterReset (straps : Straps) (b : LaneIx) (x : Board) : Prop :=
  x.state = (if b.val ≤ straps.lanes.toNat then .off else .unfitted) ∧ x.switchOn = false ∧
    x.sagging = false ∧ x.level = 0 ∧ x.sagRun = 0 ∧ x.deadRun = 0 ∧ x.mode = .none ∧
    x.due = none ∧ x.staged = .idle ∧ x.waitingPower = 0 ∧ ∀ p, x.ports.get p = .off

/-- Every block at its reset state (R2, R26, R54, R64, R81, R117, R142, R156, R167, R171, R174, R176; the
byte 1 of the fault detail word: log entry 43). -/
def State.AfterReset (t : State) : Prop :=
  t.port.cause = 0 ∧ t.port.causeEnable = 0 ∧ t.port.deferred = 0 ∧ t.part.engine = .notEnabled ∧
    t.part.scan = .idle ∧ t.part.scanTimer = 0 ∧ t.part.time = 0 ∧ t.part.command = .idle ∧
    t.part.refused = none ∧ t.part.latestCount = 0 ∧ t.part.doneCount = 0 ∧
    t.part.resultCode = .done ∧ t.part.result1 = 0 ∧ t.part.result2 = 0 ∧
    t.part.faultCode = .none ∧ t.part.faultDetail = 0 ∧
    t.part.settings = { scanInterval := 10, dataTimeout := 2000, retryLimit := 3, errorBudget := 16,
                        settleTime := 200, groupSize := 4, groupInterval := 100, sagLevel := 5,
                        indicators := true } ∧
    t.part.intake = none ∧ t.part.probeSequence = 0 ∧
    t.part.outcomes = { queue := [], written := 0, held := 0, offset := 0, capacity := 0,
                        writing := none } ∧
    (∀ e ∈ t.part.filter.entries.toList, e.valid = false) ∧ t.part.filter.mask = 0 ∧
    t.part.converter = { busy := none, last := 15 } ∧ (∀ j, (t.part.job j).AfterReset) ∧
    (∀ i, (t.part.slot i).AfterReset ∧ t.part.mapOf i = none) ∧
    (∀ l, (t.part.lane l).AfterReset t.part.straps l) ∧
    ∀ b, (t.part.board b).AfterReset t.part.straps b

/-- The state after the host writes that a command brings. -/
def State.hostWrote (s : State) (ws : List Host.Cell) : State := { s with mem := s.mem.apply ws }

/-! ### When a command's event can occur (log entry 2) -/

/-- An exchange scan waits for the return of this read (R170). -/
def Part.scanAwaits (p : Part) (r : ScanRead) : Bool :=
  match p.scan with
  | .inFlight n _ => decide (n = r)
  | .ending n _ => decide (n = r)
  | .idle => false

/-- An answer can be the completion of a transaction (R104, R127, R139). -/
def Transaction.answeredBy (t : Transaction) (a : Answer) : Bool :=
  match t, a with
  | .data _ _, .data _ => true
  | .lamp _, .control x => decide (x = .good) || decide (x = .refused)
  | .control k, .control x => (controlGood k x).isSome
  | _, _ => false

/-- The event of a command can occur in this state: its timer has expired, its read is awaited, what it
ends is in flight, its snapshot is in execution, its transition is due. -/
def Part.occurs (p : Part) : Instr → Bool
  | .powerOnReset _ | .pinReset _ | .softReset _ | .causeClear _ | .causeEnableWrite _
  | .registerWrite _ _ | .blinkPhaseToggle => true
  | .enable => decide (p.engine ≠ .enabled)
  | .quiesce => decide (p.engine = .enabled)
  | .engineQuiesced => decide (p.engine = .quiescing) && p.nothingInFlight
  | .attention _ _ => p.reports
  | .scanIntervalExpiry => p.reports && decide (0 < p.settings.scanInterval) &&
      decide (p.settings.scanInterval ≤ p.scanTimer)
  | .commandCountRead _ _ => p.scanAwaits .commandCount
  | .publishFieldRead j _ _ => p.scanAwaits (.publish j)
  | .consumedCountRead _ _ => p.scanAwaits .consumed
  | .commandSnapshotReturn _ _ => decide (p.command = .readingCell)
  | .applySettings => (p.executing codeApplySettings).isSome
  | .settingsRecordReadDone _ _ => (match p.command with
      | .readingSettings _ => true
      | _ => false)
  | .outcomeListChangeJudge => decide (p.outcomes.writing = none) && (match p.command with
      | .judgingList _ _ => true
      | _ => false)
  | .unknownCommand => p.executingUnknown.isSome
  | .defineJob => (p.executing codeDefineJob).isSome
  | .jobRecordReadDone _ _ => (match p.command with
      | .readingJobRecord _ _ _ => true
      | _ => false)
  | .extentEntryRead _ _ => (match p.command with
      | .readingExtents _ _ _ _ _ _ => true
      | _ => false)
  | .setPriority => (p.executing codeSetPriority).isSome
  | .pauseJob => (p.executing codePauseJob).isSome
  | .resumeJob => (p.executing codeResumeJob).isSome
  | .closeJob => (p.executing codeCloseJob).isSome
  | .abortJob => (p.executing codeAbortJob).isSome
  | .releaseJob => (p.executing codeReleaseJob).isSome
  | .startPass => (p.executing codeStartPass).isSome
  | .assignSlots => (p.executing codeAssignSlots).isSome
  | .setFilter => (p.executing codeSetFilter).isSome
  | .filterRecordReadDone _ _ => (match p.command with
      | .readingFilter _ _ => true
      | _ => false)
  | .ejectSlot => (p.executing codeEjectSlot).isSome
  | .setIndicator => (p.executing codeSetIndicator).isSome
  | .restoreBoard => (p.executing codeRestoreBoard).isSome
  | .portRestore => (p.executing codePortRestore).isSome
  | .intakeStart => p.digestIdle && p.chosenJob.isSome
  | .intakeDone r _ => (match p.intake with
      | none => false
      | some t => p.intakeReadFits t r)
  | .jobPaused j => p.pausedDue j
  | .jobEnded j => p.endedDue j
  | .passEnd j => p.passEndDue j
  | .lagHoldTimerExpiry j => p.lagExpired j
  | .pendingEndApply i => p.endDue i
  | .attachNotice i | .detachNotice i | .overcurrentNotice i => p.takesNotices i
  | .hubLoss l _ => decide ((p.lane l).state = .up)
  | .attachRelease i => p.releaseDue i
  | .settleTimerExpiry i => p.settleExpired i
  | .backoffTimerExpiry i => p.backoffDone i
  | .laneGrant l => p.mayGrant l && (p.lane l).emptyPlace.isSome &&
      ((p.lane l).controlChoice.isSome || (p.dataChoice l).isSome)
  | .transactionCompletion i a _ _ => (match p.placeOf i with
      | none => false
      | some pl => pl.transaction.answeredBy a)
  | .transactionTimerExpiry i => (match p.placeOf i with
      | none => false
      | some pl => decide (pl.timeout ≤ pl.timer))
  | .lateAnswer i bulk tag statusStage => (lateEnds (p.placeOf i) bulk tag statusStage).isSome
  | .retryWaitExpiry l => p.reports && (match (p.lane l).retryWait with
      | none => false
      | some t => decide (Config.retryWait ≤ t))
  | .bringUpStart l => p.bringUpDue l
  | .bringUpExchangeEnd l e _ => (p.treeEnd l .bringingUp e).isSome
  | .rebuildExchangeEnd l e _ => (p.treeEnd l .resetting e).isSome
  | .conversionStart => decide (p.converter.busy = none) && p.nextBoard.isSome
  | .conversionDone _ => p.converted.isSome
  | .powerGroupIntervalExpiry b => p.groupDue b
  | .outcomeRecordWriteStart => p.recordDue
  | .outcomeRecordWriteDone => p.outcomes.writing.isSome
  | .copyDataReadError i => (p.copyWrite i).isSome

/-! ### The ends of host commands -/

/-- The command unit executes this snapshot, of the command with this code (R172, R173). -/
def State.executes (s : State) (code : Half) (c : CommandCell) : Prop :=
  s.part.command = .executing c ∧ c.code = code

/-- A host command has ended so (R172): result words, result code, done count, COMMAND_DONE. -/
def EndedWith (t : State) (c : CommandCell) (r : ResultCode) (w1 w2 : Word) : Prop :=
  t.part.doneCount = c.count ∧ t.part.resultCode = r ∧ t.part.result1 = w1 ∧ t.part.result2 = w2 ∧
    t.port.has .commandDone

/-- A host command was refused (R173): it changed its results and the command unit, and wrote only the
results and the clock. -/
def RefusedWith (s t : State) (c : CommandCell) (r : ResultCode) (w1 w2 : Word) : Prop :=
  EndedWith t c r w1 w2 ∧
    t.part = { s.part with
      doneCount := c.count, resultCode := r, result1 := w1, result2 := w2,
      command := t.part.command } ∧
    ∀ a, ¬(0x100 ≤ a ∧ a < 0x110) → ¬(0x118 ≤ a ∧ a < 0x11C) → t.mem.read a = s.mem.read a

/-! ### What is kept -/

/-- The supply of a board: what the rail monitor and the switch hold (R141). -/
structure Supply where
  state : BoardState
  switchOn : Bool
  sagging : Bool
  level : Nat
  sagRun : Nat
  deadRun : Nat
  due : Option Word
  deriving DecidableEq, Repr

/-- The supply part of a board record. -/
abbrev Board.supply (b : Board) : Supply :=
  { state := b.state, switchOn := b.switchOn, sagging := b.sagging, level := b.level,
    sagRun := b.sagRun, deadRun := b.deadRun, due := b.due }

/-- What a definition fixes in a job context (R1, R13). -/
structure Definition where
  record : JobRecord
  extents : List Extent
  span : Nat
  chunkSize : Nat
  chunks : Nat
  blocks : Nat
  deriving DecidableEq, Repr

/-- The definition of a job context. -/
abbrev Job.definition (c : Job) : Definition :=
  { record := c.record, extents := c.extents, span := c.span, chunkSize := c.chunkSize,
    chunks := c.chunks, blocks := c.blocks }

/-- What the status entry of a job shows of its context (R15, R25, R180), but for the priority level,
whose change alone writes no entry (log entry 19). -/
structure JobReport where
  state : JobState
  passActive : Bool
  passNo : Nat
  p : Nat
  i : Nat
  f : Nat
  d : Nat
  chunks : Nat
  span : Nat
  blocks : Nat
  lagRunning : Bool
  faultDetail : Option AbortReason
  remembered : Remembered
  deriving DecidableEq, Repr

/-- The reported part of a job context. -/
abbrev Job.report (c : Job) : JobReport :=
  { state := c.state, passActive := c.passActive, passNo := c.passNo, p := c.p, i := c.i, f := c.f,
    d := c.d, chunks := c.chunks, span := c.span, blocks := c.blocks, lagRunning := c.lagRunning,
    faultDetail := c.faultDetail, remembered := c.remembered }

/-- The registers outside the four unit tables. -/
structure Header where
  straps : Straps
  time : Word
  engine : Engine
  scan : Scan
  scanTimer : Nat
  refused : Option Word
  latestCount : Word
  doneCount : Word
  resultCode : ResultCode
  result1 : Word
  result2 : Word
  command : CommandUnit
  settings : Settings
  filter : AdmissionFilter
  converter : Converter
  deriving DecidableEq, Repr

/-- The outcome list with its counts (R156), less the queue. -/
structure ListState where
  written : Word
  held : Word
  offset : Nat
  capacity : Nat
  writing : Option OutcomeRecord
  deriving DecidableEq, Repr

/-- What the operations of a life, a pass or a lane transaction keep. -/
structure Kept where
  header : Header
  list : ListState
  supply : LaneIx → Supply
  lane : LaneIx → LaneState
  job : JobIx → Definition

/-- The kept part of a working state. -/
def Part.kept (p : Part) : Kept :=
  { header := { straps := p.straps, time := p.time, engine := p.engine, scan := p.scan,
                scanTimer := p.scanTimer, refused := p.refused, latestCount := p.latestCount,
                doneCount := p.doneCount, resultCode := p.resultCode, result1 := p.result1,
                result2 := p.result2, command := p.command, settings := p.settings,
                filter := p.filter, converter := p.converter },
    list := { written := p.outcomes.written, held := p.outcomes.held, offset := p.outcomes.offset,
              capacity := p.outcomes.capacity, writing := p.outcomes.writing },
    supply := fun b => (p.board b).supply,
    lane := fun l => (p.lane l).state,
    job := fun j => (p.job j).definition }

/-- The bytes the host owns, and the bytes beyond the exchange block (R168). -/
def ForeignBytesKept (s t : State) : Prop :=
  ∀ a, a < 0x100 ∨ 0x1000 ≤ a → t.mem.read a = s.mem.read a

/-- A cause is raised, unless the engine keeps it back (R166). -/
def Raised (s t : State) (c : Cause) : Prop := s.part.reports = true → t.port.has c

/-- A DATA transaction of a slot has ended as a counted failure below its limits (R106, R110): both
counts have risen, its place is free, a reset recovery is ready and the life goes on. -/
def CountedFailure (s t : State) (i : SlotIx) : Prop :=
  (t.part.slot i).state = (s.part.slot i).state ∧
    (t.part.slot i).retries = (s.part.slot i).retries + 1 ∧
    (t.part.slot i).stickErrors = (s.part.slot i).stickErrors + 1 ∧
    t.part.placeOf i = none ∧
    { port := portOf i, kind := .resetRecovery } ∈ (t.part.lane (laneOf i)).ready

/-- A member that has passed sizing and the probe goes on (R21, R45, R70, R88): it joins the pass of its
job while F is 0, fails in a closing job with no pass active, and waits READY otherwise. -/
def BecameReady (s t : State) (i : SlotIx) (j : JobIx) : Prop :=
  let x := s.part.job j
  let y := t.part.slot i
  y.probe = none ∧ y.member = some j ∧
    (x.passActive = true → x.f = 0 → y.state = .writing ∧
      (y.writeChunk, y.writeOffset) = x.settleWrite 0 0) ∧
    (x.passActive = false → x.state = .closing → y.state = .failed ∧ y.reason = .jobClosed) ∧
    ((x.passActive = true → x.f ≠ 0) →
      (x.state = .closing → x.passActive = true ∧ s.part.activeSet j ≠ []) → y.state = .ready)

/-- The scrub of a member goes on at the first point from index k on that lies outside the image, or the
probe is over (R87, R88). -/
def ScrubGoesOn (s t : State) (i : SlotIx) (j : JobIx) (q : ProbePosition) (k : Nat) : Prop :=
  match nextScrub (s.part.job j).extents (s.part.pointsOf j (s.part.slot i)) k with
  | some n => (t.part.slot i).state = .probing ∧
      (t.part.slot i).probe = some { q with phase := .scrub, index := n }
  | none => BecameReady s t i j

/-- An enumeration attempt of a slot has failed (R61): below three a new one begins at once with its port
reset, the third ends the life; no other count changes. -/
def AttemptFailed (s t : State) (i : SlotIx) : Prop :=
  t.part.placeOf i = none ∧ (t.part.slot i).retries = (s.part.slot i).retries ∧
    (t.part.slot i).stickErrors = (s.part.slot i).stickErrors ∧
    (t.part.slot i).notReady = (s.part.slot i).notReady ∧
    ((s.part.slot i).attempts < 3 →
      t.part.slot i = { s.part.slot i with attempts := (s.part.slot i).attempts + 1 } ∧
        { port := portOf i, kind := .portReset } ∈ (t.part.lane (laneOf i)).ready) ∧
    (3 ≤ (s.part.slot i).attempts →
      (t.part.slot i).state = .failed ∧ (t.part.slot i).reason = .enumFailed ∧
        (t.part.slot i).outcomePending = true)

/-- A life has begun in a slot (R56): SETTLING at the current time, every per-life item cleared; the indicator
override, the last-sent indicator and the outcome-pending flag are kept. -/
def LifeBegun (s t : State) (i : SlotIx) : Prop :=
  let x := s.part.slot i
  let y := t.part.slot i
  y.state = .settling ∧ y.settle = 0 ∧ y.lifeStart = s.part.time ∧ y.member = none ∧ y.vendor = 0 ∧
    y.product = 0 ∧ y.serial = [] ∧ y.truncated = false ∧ y.capacity = none ∧ y.writeChunk = 0 ∧
    y.writeOffset = 0 ∧ y.verifyChunk = 0 ∧ y.verifyOffset = 0 ∧ y.written = 0 ∧ y.verified = 0 ∧
    y.verifyCrc = 0 ∧ y.attempts = 0 ∧ y.retries = 0 ∧ y.stickErrors = 0 ∧ y.notReady = 0 ∧
    y.firstBad = none ∧ y.honest = none ∧ y.pendingEnd = .none ∧ y.reason = .none ∧
    y.override = x.override ∧ y.lastSent = x.lastSent ∧ y.outcomePending = x.outcomePending

/-- The class check has been made on these interfaces (R63): the first that passes is used from then on and
the configuration is selected next; with none the life fails UNSUPPORTED, its identity in the outcome. -/
def ClassChecked (s t : State) (i : SlotIx) (ifaces : List Iface) : Prop :=
  let y := t.part.slot i
  t.part.placeOf i = none ∧ y.attempts = (s.part.slot i).attempts ∧
    (∀ f, ifaces.find? acceptedIface = some f → y.iface = some f ∧
      y.state = (s.part.slot i).state ∧
      { port := portOf i, kind := .selectConfiguration } ∈ (t.part.lane (laneOf i)).ready) ∧
    (ifaces.find? acceptedIface = none → y.state = .failed ∧ y.reason = .unsupported ∧
      y.outcomePending = true ∧ ∃ q ∈ t.part.outcomes.queue, q.outcome.slot = i ∧
        q.outcome.verdict = .failed ∧ q.outcome.reason = .unsupported ∧
        q.outcome.job = (s.part.slot i).member ∧ q.outcome.vendor = y.vendor ∧
        q.outcome.product = y.product ∧ q.outcome.serial = y.serial)

/-- A port has become LOCKED (R152): its power off request is ready, no attach waits, a non-terminal life has
failed OVERCURRENT, and the board's status is reported; a slot without one stays as it is. -/
def PortLockedOut (s t : State) (i : SlotIx) : Prop :=
  t.part.portLocked i = true ∧
    { port := portOf i, kind := .portPowerOff } ∈ (t.part.lane (laneOf i)).ready ∧
    (t.part.slot i).attachWaiting = false ∧
    ((s.part.slot i).state.live = true → (t.part.slot i).state = .failed ∧
      (t.part.slot i).reason = .overcurrent) ∧
    ((s.part.slot i).state.live = false →
      t.part.slot i = { s.part.slot i with attachWaiting := false }) ∧
    (∀ k, k ≠ i → t.part.portLocked k = s.part.portLocked k) ∧ Raised s t .railEvent

/-- The transaction in flight of a slot has ended and nothing is done at its end, but for the health run of
its lane: its place is free, and slots, jobs, boards, ready requests and causes are as before. -/
def EndIgnored (s t : State) (i : SlotIx) : Prop :=
  t.part.placeOf i = none ∧ (∀ k, t.part.slot k = s.part.slot k) ∧
    (∀ j, t.part.job j = s.part.job j) ∧ (∀ b, t.part.board b = s.part.board b) ∧
    (∀ l, (t.part.lane l).ready = (s.part.lane l).ready) ∧ t.port = s.port

/-- An indicator request with this value has ended otherwise than GOOD (R79, R139): the value is pending again
unless a newer one waits or the desired one is the last-sent one; the last-sent one stays. -/
def LampFailed (s t : State) (i : SlotIx) (v : Lamp) : Prop :=
  let x := s.part.slot i
  let again := x.pendingLamp.isNone && decide (x.lastSent ≠ some x.desired)
  t.part.placeOf i = none ∧
    t.part.slot i = { x with pendingLamp := if again then some v else x.pendingLamp } ∧
    t.part.isReady i .lamp = (again || s.part.isReady i .lamp) ∧
    (∀ k, k ≠ i → t.part.slot k = s.part.slot k) ∧ t.port = s.port

/-- A DATA transaction of a slot has ended its life at a limit (R106): both counts have risen, its place
is free, and the slot is FAILED with this reason. -/
def FailedAtLimit (s t : State) (i : SlotIx) (r : Reason) : Prop :=
  (t.part.slot i).state = .failed ∧ (t.part.slot i).reason = r ∧
    (t.part.slot i).retries = (s.part.slot i).retries + 1 ∧
    (t.part.slot i).stickErrors = (s.part.slot i).stickErrors + 1 ∧ t.part.placeOf i = none

/-- A read error on a host area has been reported with this area code (R173, R176). -/
def AreaFault (t : State) (area : Nat) : Prop :=
  t.part.faultCode = .areaRead ∧ t.part.faultDetail = area ∧ t.port.has .fault

/-- F of a job whose pass is active follows the lowest cursor of its active set, and a rise has raised
CHUNK_RELEASED (R43, R44). -/
def ReleaseFollows (s t : State) (j : JobIx) : Prop :=
  (s.part.job j).passActive = true → (s.part.job j).state ≠ .aborting →
    (t.part.job j).f = t.part.lowestCursor j ∧
      ((t.part.job j).f ≠ (s.part.job j).f → (t.part.job j).p =
        min (t.part.job j).v (min ((t.part.job j).f + (t.part.job j).record.depth)
          (t.part.job j).chunks)) ∧
      ((s.part.job j).f < (t.part.job j).f → Raised s t .chunkReleased)

/-- The ports that a lane-up notice switches on at once: the first group of a board that is ON and not
SAGGING (R149). -/
def Part.firstGroup (p : Part) (b : LaneIx) : List PortIx :=
  if (p.board b).state = .on ∧ (p.board b).sagging = false
  then (p.board b).offPorts.take p.settings.groupSize else []

/-- The slot on a port after its lane's entry into UP: its lamp pending from an unknown one (R79, R121),
and the port status acted on (R126). -/
def PortScanned (s t : State) (i : SlotIx) (connected : Bool) : Prop :=
  let x := s.part.slot i
  let y := t.part.slot i
  y.lastSent = none ∧ y.desired = t.part.desiredLamp y ∧ y.pendingLamp = some y.desired ∧
    t.part.isReady i .lamp = true ∧ (connected = false → y.state = .empty) ∧
    (connected = true → x.state.terminal = true → y.state = x.state) ∧
    (connected = true → x.state = .empty → t.part.portOn i = false → y.state = .empty) ∧
    (connected = true → x.state = .empty → t.part.portOn i = true → x.outcomePending = false →
      y.state = .settling ∧ y.lifeStart = s.part.time) ∧
    (connected = true → x.state = .empty → t.part.portOn i = true → x.outcomePending = true →
      y.state = .empty ∧ y.attachWaiting = true)

/-- A lane has entered UP (R121): health run and pointer cleared, the rest of the lane's record kept,
the first power group taken (R149), the power on requests that waited ready (log entry 12), the ports
that the hubs held in overcurrent LOCKED (R152; after the first group: log entry 17), and every port
scanned (R126). -/
def EnteredUp (s t : State) (l : LaneIx) (held connected : BitVec 16) : Prop :=
  let x := s.part.lane l
  let y := t.part.lane l
  let b := s.part.board l
  y.state = .up ∧ y.health = 0 ∧ y.pointer = 0 ∧ y.tree = none ∧ y.resets = x.resets ∧
    y.fault = x.fault ∧ y.tag = x.tag ∧ Raised s t .laneEvent ∧
    (t.part.board l).waitingPower = 0 ∧
    (∀ p, (t.part.board l).ports.get p = if held.getLsbD p.val then .locked
      else if p ∈ s.part.firstGroup l then .on else b.ports.get p) ∧
    (b.state = .on → b.offPorts ≠ [] → (t.part.board l).staged =
      if b.sagging then .armed
      else if b.offPorts.length ≤ s.part.settings.groupSize then .idle
      else .running 0 s.part.settings.groupInterval) ∧
    (∀ p, held.getLsbD p.val = false →
      p ∈ s.part.firstGroup l ∨ b.waitingPower.getLsbD p.val = true ∧ b.ports.get p = .on →
      { port := p, kind := .portPowerOn } ∈ y.ready) ∧
    (∀ p, held.getLsbD p.val = true → b.ports.get p ≠ .locked →
      { port := p, kind := .portPowerOff } ∈ y.ready) ∧
    ∀ p, PortScanned s t (slotOf l p) (connected.getLsbD p.val)

/-- No hold of R129 keeps a ready CONTROL request back on its lane: its slot holds no place, and, for an
indicator request, no other one is in flight. -/
def Unheld (l : Lane) (r : ReadyControl) : Prop :=
  (∀ k x, l.places.get k = some x → x.port ≠ r.port) ∧
    (r.kind = .lamp → ∀ k x v, l.places.get k = some x → x.transaction ≠ .lamp v)

/-- The write cursor a joining member takes with resume point r in a pass that starts at `first`
(R29, R45, R92). -/
def Job.settleWriteAt (c : Job) (first r : Nat) : Nat × Nat := (c.beginPass first).settleWrite r 0

/-! ### Invariants -/

/-- A board record as R141 and R143 describe it: unfitted exactly beyond the strap, switched on exactly
in RAMPING and ON, SAGGING in ON only, run counts in range, due exactly while it is sampled. -/
def BoardInv (straps : Straps) (b : LaneIx) (x : Board) : Prop :=
  (x.state = .unfitted ↔ straps.lanes.toNat < b.val) ∧
    (x.switchOn = true ↔ x.state = .ramping ∨ x.state = .on) ∧
    (x.sagging = true → x.state = .on) ∧ x.sagRun ≤ 4 ∧ x.deadRun ≤ 4 ∧
    (x.due.isSome = true ↔ x.state = .ramping ∨ x.state = .on)

/-- Every board of a state is so. -/
def BoardsInv (s : State) : Prop := ∀ b, BoardInv s.part.straps b (s.part.board b)

/-- A lane as R118 describes it: absent exactly beyond the strap; in bring-up, UP or in a rebuild only
while its board is ON. -/
def LanesInv (s : State) : Prop :=
  ∀ l, ((s.part.lane l).state = .absent ↔ s.part.straps.lanes.toNat < l.val) ∧
    ((s.part.lane l).state = .bringingUp ∨ (s.part.lane l).state = .up ∨
      (s.part.lane l).state = .resetting → (s.part.board l).state = .on)

/-- Boards and lanes together. -/
def TowerInv (s : State) : Prop := BoardsInv s ∧ LanesInv s

/-- The areas that the part writes lie beyond the exchange block (R9, R174): the digest list of every
job that is not VACANT and of the job in intake, and the outcome list where there is one. A VACANT job
without a digest list of its own has no pass active. -/
def AreasInv (s : State) : Prop :=
  (∀ j, (s.part.job j).state = .vacant ∧ (s.part.job j).passActive = false ∨
      4096 ≤ (s.part.job j).record.digestOffset) ∧
    (∀ x, s.part.intake = some x → 4096 ≤ (s.part.job x.job).record.digestOffset) ∧
    (s.part.outcomes.capacity = 0 ∨ 4096 ≤ s.part.outcomes.offset)

end Sys2Proof.Machine
end

