-- ==== Sys2Proof/Certificates/Slice0/Obligations.lean ====
section
/-! DEFINITION. The statements about the TQ-256 for the provers. -/

section

open Sys2Proof Sys2Proof.Machine

/-! ### The machine as a whole -/

/-- A step takes the command at the front of the queue and runs it on the queue's rest. -/
def Obligations.StepTakesTheFrontCommand : Prop :=
  ∀ (c : Instr) (rest : List Instr) (s : Machine.State),
    step { s with pending := c :: rest } = exec c { s with pending := rest }

/-- A step on an empty queue is one millisecond (log entry 1, the model's choice): the time base and
every running timer advance by 1, a timer at its limit stays (log entry 28) and a stopped one keeps its
value; the window, the causes and all else of the part are as they were. -/
def Obligations.IdleStepIsOneMillisecond : Prop :=
  ∀ s : Machine.State, s.pending = [] →
    ∃ t, step s = .next t ∧ t.mem = s.mem ∧ t.port = s.port ∧ t.pending = [] ∧
      t.part = { s.part with
        time := s.part.time + 1,
        scanTimer := if s.part.reports = true ∧ s.part.settings.scanInterval ≠ 0
          then min (s.part.scanTimer + 1) 1000 else s.part.scanTimer,
        slots := t.part.slots, jobs := t.part.jobs, lanes := t.part.lanes,
        boards := t.part.boards, converter := t.part.converter } ∧
      (∀ i, t.part.slot i = { s.part.slot i with
        settle := if s.part.reports = true ∧ (s.part.slot i).state = .settling
          then min ((s.part.slot i).settle + 1) 1024 else (s.part.slot i).settle,
        backoff := if s.part.reports = true
          then (s.part.slot i).backoff.map (fun n => min (n + 1) 100)
          else (s.part.slot i).backoff }) ∧
      (∀ j, t.part.job j = { s.part.job j with
        lagTimer := if (s.part.job j).lagRunning = true
          then min ((s.part.job j).lagTimer + 1) (s.part.job j).record.lagHold
          else (s.part.job j).lagTimer }) ∧
      (∀ l, t.part.lane l = { s.part.lane l with
        retryWait := if s.part.reports = true
          then (s.part.lane l).retryWait.map (fun n => min (n + 1) 5000)
          else (s.part.lane l).retryWait,
        tree := (s.part.lane l).tree.map (fun x => { x with timer := min (x.timer + 1) 500 }),
        places := (t.part.lane l).places }) ∧
      (∀ l k, (t.part.lane l).places.get k = ((s.part.lane l).places.get k).map
        (fun x => { x with timer := min (x.timer + 1) x.timeout })) ∧
      (∀ b, t.part.board b = { s.part.board b with staged := (t.part.board b).staged }) ∧
      (∀ b n d, (s.part.board b).staged = .running n d → (t.part.board b).staged =
        if s.part.reports = true ∧ (s.part.board b).sagging = false
        then .running (min (n + 1) d) d else .running n d) ∧
      (∀ b, (∀ n d, (s.part.board b).staged ≠ .running n d) →
        (t.part.board b).staged = (s.part.board b).staged) ∧
      t.part.converter = { s.part.converter with
        busy := s.part.converter.busy.map (fun x => (x.1, min (x.2 + 1) 1)) }

/-- Every command answers a next state or, where its host writes leave the fitted image memory, faults so
(log entry 27, the model's choice): no command is refused. One whose event cannot occur changes nothing
but the bytes that the host wrote with it (log entry 2, the model's choice). No command changes the queue
behind it. -/
def Obligations.EveryCommandIsAnswered : Prop :=
  (∀ (c : Instr) (s : Machine.State),
     (hostWritesFit s.part.straps c.host = true → ∃ t, exec c s = .next t) ∧
       (hostWritesFit s.part.straps c.host = false → exec c s = .fault .outsideWindow)) ∧
  (∀ (c : Instr) (s : Machine.State), s.part.occurs c = false →
     hostWritesFit s.part.straps c.host = true → exec c s = .next (s.hostWrote c.host)) ∧
  (∀ (c : Instr) (s t : Machine.State), exec c s = .next t → t.pending = s.pending)

/-- The image memory keeps its canonical form under every step. -/
def Obligations.MemoryStaysCanonical : Prop :=
  ∀ s t : Machine.State, s.wf → step s = .next t → t.wf

/-- The invariants hold after reset: canonical memory, consistent boards and lanes, areas beyond the
exchange block. -/
def Obligations.ResetKeepsTheInvariants : Prop :=
  Machine.State.reset.wf ∧ TowerInv Machine.State.reset ∧ AreasInv Machine.State.reset

/-- Boards and lanes stay as R118, R141 and R143 describe them under every step: fitted by the strap,
switched on exactly in RAMPING and ON, SAGGING only when ON, run counts in range, and a lane out of DOWN
only while its board is ON. -/
def Obligations.TowerStaysConsistent : Prop :=
  ∀ s t : Machine.State, TowerInv s → step s = .next t → TowerInv t

/-- The areas that the part writes stay beyond the exchange block under every step: the digest list of
every job that is not VACANT and of the job in intake, and the outcome list. -/
def Obligations.AreasStayBeyondTheExchangeBlock : Prop :=
  ∀ s t : Machine.State, AreasInv s → step s = .next t → AreasInv t

/-- A cause flag stays set until the host clears it: only CAUSE_CLEAR and the resets clear one. -/
def Obligations.CausesStayUntilCleared : Prop :=
  ∀ (c : Instr) (s t : Machine.State) (k : Cause), isReset c = false → (∀ v, c ≠ .causeClear v) →
    exec c s = .next t → s.port.has k → t.port.has k

/-- The straps are captured at a power-on or pin reset and change at no other command; only the end of a
DEFINE_JOB, and the resets, change a job's record copy, extents and geometry. -/
def Obligations.StrapsAndDefinitionsAreStable : Prop :=
  (∀ (c : Instr) (s t : Machine.State), (∀ x, c ≠ .powerOnReset x) → (∀ x, c ≠ .pinReset x) →
     exec c s = .next t → t.part.straps = s.part.straps) ∧
  (∀ (c : Instr) (s t : Machine.State) (j : JobIx), isReset c = false →
     (∀ e h, c ≠ .extentEntryRead e h) → exec c s = .next t →
     (t.part.job j).definition = (s.part.job j).definition)

/-- The events of slots, jobs, lanes' transactions and hubs leave the straps, the time base, the engine,
the scan, the command unit and its results, the settings, the filter, the converter, every board's
supply, every lane's state, every job's definition and the outcome list's counts as they are. -/
def Obligations.EventsKeepTheRest : Prop :=
  ∀ (c : Instr) (s t : Machine.State),
    (match c with
      | .intakeStart | .jobPaused _ | .jobEnded _ | .passEnd _ | .lagHoldTimerExpiry _
      | .pendingEndApply _ | .attachNotice _ | .detachNotice _ | .overcurrentNotice _
      | .attachRelease _ | .settleTimerExpiry _ | .backoffTimerExpiry _ | .blinkPhaseToggle
      | .laneGrant _ | .lateAnswer _ _ _ _ | .retryWaitExpiry _ | .powerGroupIntervalExpiry _
      | .copyDataReadError _ | .intakeDone _ _ | .transactionCompletion _ _ _ _ => True
      | _ => False) →
    exec c s = .next t → t.part.kept = s.part.kept

/-- The part writes no byte that the host owns and none beyond the exchange block, but for the digest
entry of INTAKE_DONE and the record of OUTCOME_RECORD_WRITE_DONE, which have statements of their own. -/
def Obligations.OnlyPartOwnedFieldsAreWritten : Prop :=
  ∀ (c : Instr) (s t : Machine.State), isReset c = false → (∀ r h, c ≠ .intakeDone r h) →
    c ≠ .outcomeRecordWriteDone → exec c s = .next t →
    ∀ a, a < 0x100 ∨ 0x1000 ≤ a → t.mem.read a = (s.mem.apply c.host).read a

/-- What a command reports is current in the exchange block when its cause is raised (R169). On an enabled
engine: the mirror entry of a slot, the status of a job, lane or board that changed, with SLOT_CHANGED,
JOB_CHANGED, CHUNK_RELEASED, LANE_EVENT or RAIL_EVENT. A job's entry is current at each change of what it
shows: the context's reported fields (all but the priority level: log entry 19, the model's choice), and
the member counts and the lowest resume chunk, which change with a member's state and with a slot that
joins the job or leaves it. In every engine state: the fault detail word with
FAULT, the result words, result code and done count with COMMAND_DONE, the outcome written count with
OUTCOME_ADDED. The millisecond clock goes with every write to the block. -/
def Obligations.ReportedFieldsAreCurrent : Prop :=
  ∀ (c : Instr) (s t : Machine.State), s.wf → isReset c = false → exec c s = .next t →
    (t.part.reports = true →
      (∀ i, mirrorEntry (t.part.slot i) ≠ mirrorEntry (s.part.slot i) →
        t.mem.readBytes (mirrorOffset i) 8 = mirrorEntry (t.part.slot i)) ∧
      (∀ i, (t.part.slot i).state ≠ (s.part.slot i).state → t.port.has .slotChanged) ∧
      (∀ j, (t.part.job j).report ≠ (s.part.job j).report →
        t.mem.readBytes (jobOffset j) 64 = jobEntry t.part j) ∧
      (∀ i j, (t.part.slot i).member = some j →
        (s.part.slot i).member ≠ some j ∨ (t.part.slot i).state ≠ (s.part.slot i).state →
        t.mem.readBytes (jobOffset j) 64 = jobEntry t.part j) ∧
      (∀ i j, (s.part.slot i).member = some j → (t.part.slot i).member = none →
        (s.part.slot i).state ≠ .empty → (s.part.slot i).attachWaiting = false →
        t.mem.readBytes (jobOffset j) 64 = jobEntry t.part j) ∧
      (∀ j, (t.part.job j).state ≠ (s.part.job j).state ∨
          (t.part.job j).passActive ≠ (s.part.job j).passActive → t.port.has .jobChanged) ∧
      (∀ j, c ≠ .startPass → (s.part.job j).f < (t.part.job j).f → t.port.has .chunkReleased) ∧
      (∀ l, laneEntry (t.part.lane l) ≠ laneEntry (s.part.lane l) →
        t.mem.readBytes (laneOffset l) 8 = laneEntry (t.part.lane l)) ∧
      (∀ l, (t.part.lane l).state ≠ (s.part.lane l).state → t.port.has .laneEvent) ∧
      (∀ b, boardEntry (t.part.board b) ≠ boardEntry (s.part.board b) →
        t.mem.readBytes (boardOffset b) 8 = boardEntry (t.part.board b)) ∧
      (∀ b, (t.part.board b).state ≠ (s.part.board b).state ∨
          (t.part.board b).sagging ≠ (s.part.board b).sagging ∨
          lockedSet (t.part.board b) ≠ lockedSet (s.part.board b) → t.port.has .railEvent)) ∧
    (t.part.faultCode ≠ s.part.faultCode ∨ t.part.faultDetail ≠ s.part.faultDetail →
      t.mem.readBytes 0x114 4 =
        leBytes 1 t.part.faultCode.code ++ leBytes 1 t.part.faultDetail ++ leBytes 2 0 ∧
      t.port.has .fault) ∧
    (t.part.doneCount ≠ s.part.doneCount →
      t.mem.word 0x100 = t.part.doneCount ∧
      t.mem.word 0x104 = BitVec.ofNat 32 t.part.resultCode.code ∧
      t.mem.word 0x108 = t.part.result1 ∧ t.mem.word 0x10C = t.part.result2 ∧
      t.port.has .commandDone) ∧
    (t.part.outcomes.written ≠ s.part.outcomes.written →
      t.mem.word 0x110 = t.part.outcomes.written ∧ t.port.has .outcomeAdded) ∧
    ((∃ a, 0x100 ≤ a ∧ a < 0x1000 ∧ t.mem.read a ≠ (s.mem.apply c.host).read a) →
      t.mem.word 0x118 = t.part.time)

/-! ### Resets and registers (chapter 9) -/

/-- Power-on, pin and soft reset: every register, table, queue, counter and timer of every block at its
reset state, causes, cause enable and ENABLE 0; the image memory kept, but for power-on (log entry 4, the
model's choice of its content); the straps captured, or kept by a soft reset. Where the manual names no
reset value it is the model's choice (log entries 9, 36 and 43). -/
def Obligations.ResetsReturnEveryBlock : Prop :=
  ∀ (x : Straps) (e : Bool) (s : Machine.State),
    (∃ t, exec (.powerOnReset x) s = .next t ∧ t.part.straps = x ∧ t.mem = [] ∧ t.AfterReset) ∧
      (∃ t, exec (.pinReset x) s = .next t ∧ t.part.straps = x ∧ t.mem = s.mem ∧ t.AfterReset) ∧
      (∃ t, exec (.softReset e) s = .next t ∧ t.part.straps = s.part.straps ∧ t.mem = s.mem ∧
        t.AfterReset)

/-- The five registers (R179): what each reads as, which command a write of each is, what a write of the
cause and cause enable registers does, the places of the cause bits, the interrupt line, and that a write
to a read-only or reserved place changes nothing. -/
def Obligations.RegistersAreLaidOut : Prop :=
  ∀ (s : Machine.State) (v : Word),
    s.readRegister 0x00 = some (0x2F560100 ||| (s.part.straps.lanes.setWidth 32 <<< 4) |||
      (if s.part.straps.memory1GiB then 8 else 0) |||
      (if s.part.straps.reference40MHz then 4 else 0)) ∧
    s.readRegister 0x04 = some (if s.part.engine = .notEnabled then 0 else 1) ∧
    s.readRegister 0x08 = some 0 ∧
    s.readRegister 0x0C = some (s.port.cause.setWidth 32) ∧
    s.readRegister 0x10 = some (s.port.causeEnable.setWidth 32) ∧
    exec (.causeClear v) s =
      .next { s with port := { s.port with cause := s.port.cause &&& ~~~(v.setWidth 11) } } ∧
    exec (.causeEnableWrite v) s =
      .next { s with port := { s.port with causeEnable := v.setWidth 11 } } ∧
    Cause.commandDone.bit = 1#11 <<< 0 ∧ Cause.slotChanged.bit = 1#11 <<< 1 ∧
    Cause.jobChanged.bit = 1#11 <<< 2 ∧ Cause.chunkReleased.bit = 1#11 <<< 3 ∧
    Cause.outcomeAdded.bit = 1#11 <<< 4 ∧ Cause.outcomeWaiting.bit = 1#11 <<< 5 ∧
    Cause.rewindNeeded.bit = 1#11 <<< 6 ∧ Cause.railEvent.bit = 1#11 <<< 7 ∧
    Cause.laneEvent.bit = 1#11 <<< 8 ∧ Cause.fault.bit = 1#11 <<< 9 ∧
    Cause.quiesced.bit = 1#11 <<< 10 ∧
    (s.port.interruptLine = true ↔ s.port.cause &&& s.port.causeEnable ≠ 0) ∧
    (v.getLsbD 1 = true → registerCommand 0x04 v = .softReset (v.getLsbD 0)) ∧
    (v.getLsbD 1 = false → v.getLsbD 0 = true → registerCommand 0x04 v = .enable) ∧
    (v.getLsbD 1 = false → v.getLsbD 0 = false → registerCommand 0x04 v = .quiesce) ∧
    registerCommand 0x08 v = .attention v [] ∧ registerCommand 0x0C v = .causeClear v ∧
    registerCommand 0x10 v = .causeEnableWrite v ∧
    ∀ o, registerReserved o = true →
      registerCommand o v = .registerWrite o v ∧ exec (.registerWrite o v) s = .next s

/-- ENABLE on an engine that is not enabled or is quiescing: the engine is enabled, every fitted OFF
board enters RAMPING and is due at once, deferred causes are raised, a scan is requested and its timer
starts at 0; slots keep their state, boards that are not OFF their supply. The exchange block is made
current: the mirror entry of every slot, the status of every job, lane and board, the done count, the result
code and words, the outcome written count, the fault detail word and the millisecond clock. An enabled engine
is not changed. That every lane is as before, its bring-up being a command of its own, is log entry 7, and
that the request meets a scan which a quiesce has ended by leaving one pending is log entry 25: the model's
choices. -/
def Obligations.EnableStartsTheEngine : Prop :=
  (∀ s : Machine.State,
     (s.part.engine ≠ .enabled →
       ∃ t, exec .enable s = .next t ∧ t.part.engine = .enabled ∧ t.part.scanTimer = 0 ∧
         t.part.scan = s.part.scan.request ∧ t.port.deferred = 0 ∧
         t.port.cause &&& s.port.deferred = s.port.deferred ∧
         (∀ b, (s.part.board b).state = .off →
           (t.part.board b).state = .ramping ∧ (t.part.board b).switchOn = true ∧
             (t.part.board b).due = some s.part.time ∧ (t.part.board b).mode = .fast ∧
             (t.part.board b).sagRun = 0 ∧ (t.part.board b).deadRun = 0 ∧
             (t.part.board b).sagging = false) ∧
         (∀ b, (s.part.board b).state ≠ .off → t.part.board b = s.part.board b) ∧
         (∀ i, t.part.slot i = s.part.slot i) ∧ (∀ l, t.part.lane l = s.part.lane l) ∧
         t.part.settings = s.part.settings ∧ t.part.straps = s.part.straps ∧
         t.part.doneCount = s.part.doneCount) ∧
     (s.part.engine = .enabled → exec .enable s = .next s)) ∧
  (∀ s t : Machine.State, s.wf → s.part.engine ≠ .enabled → exec .enable s = .next t →
     (∀ i, t.mem.readBytes (mirrorOffset i) 8 = mirrorEntry (t.part.slot i)) ∧
       (∀ j, t.mem.readBytes (jobOffset j) 64 = jobEntry t.part j) ∧
       (∀ l, t.mem.readBytes (laneOffset l) 8 = laneEntry (t.part.lane l)) ∧
       (∀ b, t.mem.readBytes (boardOffset b) 8 = boardEntry (t.part.board b)) ∧
       t.mem.word 0x100 = t.part.doneCount ∧
       t.mem.word 0x104 = BitVec.ofNat 32 t.part.resultCode.code ∧
       t.mem.word 0x108 = t.part.result1 ∧ t.mem.word 0x10C = t.part.result2 ∧
       t.mem.word 0x110 = t.part.outcomes.written ∧
       t.mem.readBytes 0x114 4 =
         leBytes 1 t.part.faultCode.code ++ leBytes 1 t.part.faultDetail ++ leBytes 2 0 ∧
       t.mem.word 0x118 = t.part.time)

/-- QUIESCE on an enabled engine: quiescent at once when nothing is in flight, with QUIESCED raised, and
quiescing otherwise; the scan is cut short; slots, lanes and boards keep their state. Otherwise nothing
changes. ENGINE_QUIESCED: once nothing is in flight, ENABLE reads 0 and QUIESCED is raised, and nothing
else changes. -/
def Obligations.QuiesceStopsTheEngine : Prop :=
  (∀ s : Machine.State,
     (s.part.engine = .enabled →
       ∃ t, exec .quiesce s = .next t ∧ t.part.scan = s.part.scan.cut ∧
         (s.part.nothingInFlight = true → t.part.engine = .notEnabled ∧ t.port.has .quiesced) ∧
         (s.part.nothingInFlight = false → t.part.engine = .quiescing) ∧
         (∀ i, t.part.slot i = s.part.slot i) ∧ (∀ l, t.part.lane l = s.part.lane l) ∧
         (∀ b, t.part.board b = s.part.board b) ∧ t.part.command = s.part.command ∧
         t.part.outcomes = s.part.outcomes ∧ t.part.settings = s.part.settings) ∧
     (s.part.engine ≠ .enabled → exec .quiesce s = .next s)) ∧
  (∀ s : Machine.State, s.part.engine = .quiescing → s.part.nothingInFlight = true →
     ∃ t, exec .engineQuiesced s = .next t ∧ t.part = { s.part with engine := .notEnabled } ∧
       t.port = { s.port with cause := s.port.cause ||| Cause.quiesced.bit } ∧ t.mem = s.mem)

/-! ### The exchange scan (R170 to R172) -/

/-- ATTENTION and SCAN_INTERVAL_EXPIRY request a scan: an idle scan begins, one in flight gets one
pending; an engine that is not enabled ignores the attention write. The expiry starts the timer again. A
read of the scan that meets a read error is not acted on, AREA_READ is reported with area code 6, and the
scan goes on; in a scan ended by a quiesce the value read is discarded, an error reported all the same,
and the scan is over at the return of that one read, or the scan that an enable has left pending begins. That
one read is in flight at a time is log entry 45 and that a scan may be pending then is log entry 25: the
model's choices. -/
def Obligations.ScanRequestsAreMade : Prop :=
  (∀ (v : Word) (h : List Host.Cell) (s : Machine.State),
    (hostWritesFit s.part.straps h = true → s.part.reports = true →
      ∃ t, exec (.attention v h) s = .next t ∧ t.part = { s.part with scan := s.part.scan.request } ∧
        t.port = s.port ∧ t.mem = s.mem.apply h) ∧
    (hostWritesFit s.part.straps h = true → s.part.reports = false →
      exec (.attention v h) s = .next (s.hostWrote h)) ∧
    (s.part.reports = true → 0 < s.part.settings.scanInterval →
      s.part.settings.scanInterval ≤ s.part.scanTimer →
      ∃ t, exec .scanIntervalExpiry s = .next t ∧
        t.part = { s.part with scanTimer := 0, scan := s.part.scan.request } ∧
        t.port = s.port ∧ t.mem = s.mem) ∧
    (s.part.scan = .idle → s.part.scan.request = .inFlight .commandCount false) ∧
    (∀ n p, s.part.scan = .inFlight n p → s.part.scan.request = .inFlight n true)) ∧
  (∀ (h : List Host.Cell) (p : Bool) (j : JobIx) (s : Machine.State),
    hostWritesFit s.part.straps h = true →
    (s.part.scan = .inFlight .commandCount p →
      ∃ t, exec (.commandCountRead true h) s = .next t ∧ AreaFault t 6 ∧
        t.part = { s.part with
          scan := .inFlight (.publish 0) p, faultCode := .areaRead, faultDetail := 6 }) ∧
    (s.part.scan = .inFlight (.publish j) p →
      ∃ t, exec (.publishFieldRead j true h) s = .next t ∧ AreaFault t 6 ∧
        t.part = { s.part with
          scan := .inFlight (if j.val = 3 then .consumed else .publish (j + 1)) p,
          faultCode := .areaRead, faultDetail := 6 }) ∧
    (s.part.scan = .inFlight .consumed p →
      ∃ t, exec (.consumedCountRead true h) s = .next t ∧ AreaFault t 6 ∧
        t.part = { s.part with
          scan := if p then .inFlight .commandCount false else .idle,
          faultCode := .areaRead, faultDetail := 6 })) ∧
  (∀ (h : List Host.Cell) (p : Bool) (n : ScanRead) (c : Bool → Instr) (s : Machine.State),
    hostWritesFit s.part.straps h = true → s.part.scan = .ending n p →
    (n = .commandCount ∧ c = (fun e => .commandCountRead e h) ∨
      (∃ j, n = .publish j ∧ c = fun e => .publishFieldRead j e h) ∨
      n = .consumed ∧ c = fun e => .consumedCountRead e h) →
    (∃ t, exec (c false) s = .next t ∧ t.port = s.port ∧ t.mem = s.mem.apply h ∧
      t.part = { s.part with scan := if p then .inFlight .commandCount false else .idle }) ∧
    ∃ t, exec (c true) s = .next t ∧ AreaFault t 6 ∧
      t.part = { s.part with
        scan := if p then .inFlight .commandCount false else .idle,
        faultCode := .areaRead, faultDetail := 6 })

/-- COMMAND_COUNT_READ: the count is kept; an idle command unit takes a command when it differs from
the done count; the scan goes on to the publish field of job 0. COMMAND_SNAPSHOT_RETURN: a cell with a
new count is executed; one with the done count is dropped; a read error drops the taking and reports
AREA_READ with area code 6. -/
def Obligations.CommandsAreTaken : Prop :=
  (∀ (h : List Host.Cell) (p : Bool) (s : Machine.State), hostWritesFit s.part.straps h = true →
     s.part.scan = .inFlight .commandCount p →
     ∃ t, exec (.commandCountRead false h) s = .next t ∧
       t.part = { s.part with
         latestCount := (s.mem.apply h).word 0,
         command := if s.part.command = .idle ∧ (s.mem.apply h).word 0 ≠ s.part.doneCount
           then .readingCell else s.part.command,
         scan := .inFlight (.publish 0) p } ∧
       t.port = s.port ∧ t.mem = s.mem.apply h) ∧
  (∀ (h : List Host.Cell) (s : Machine.State), hostWritesFit s.part.straps h = true →
     s.part.command = .readingCell →
     ((readCell (s.mem.apply h)).count ≠ s.part.doneCount →
       ∃ t, exec (.commandSnapshotReturn false h) s = .next t ∧
         t.part = { s.part with command := .executing (readCell (s.mem.apply h)) } ∧
         t.port = s.port ∧ t.mem = s.mem.apply h) ∧
     ((readCell (s.mem.apply h)).count = s.part.doneCount →
       ∃ t, exec (.commandSnapshotReturn false h) s = .next t ∧
         t.part = { s.part with command := .idle } ∧ t.port = s.port ∧ t.mem = s.mem.apply h) ∧
     ∃ t, exec (.commandSnapshotReturn true h) s = .next t ∧ t.part.command = .idle ∧
       t.part.faultCode = .areaRead ∧ t.part.faultDetail = 6 ∧ t.port.has .fault ∧
       t.part.doneCount = s.part.doneCount)

/-- PUBLISH_FIELD_READ with the pass active and a new field value: a value of the pass's tag above v is
taken, P becomes min(v, F + W, N), one above that limit also raises PUBLISH_OVERRUN, and one below v is
refused with PUBLISH_BACKWARDS; another tag changes nothing. -/
def Obligations.PublishFieldIsJudged : Prop :=
  ∀ (j : JobIx) (h : List Host.Cell) (p : Bool) (s : Machine.State) (tag : Half) (value : Word),
    hostWritesFit s.part.straps h = true → s.part.scan = .inFlight (.publish j) p →
    (s.part.job j).passActive = true → readPublish (s.mem.apply h) j = (tag, value) →
    (s.part.job j).lastSeen ≠ some (tag, value) →
    ∃ t, exec (.publishFieldRead j false h) s = .next t ∧
      (t.part.job j).lastSeen = some (tag, value) ∧
      (t.part.job j).v = (if tag.toNat = (s.part.job j).passNo ∧ (s.part.job j).v < value.toNat
        then value.toNat else (s.part.job j).v) ∧
      (t.part.job j).p = (if tag.toNat = (s.part.job j).passNo ∧ (s.part.job j).v < value.toNat
        then min value.toNat (min ((s.part.job j).f + (s.part.job j).record.depth)
          (s.part.job j).chunks) else (s.part.job j).p) ∧
      (t.part.job j).i = (s.part.job j).i ∧ (t.part.job j).f = (s.part.job j).f ∧
      (t.part.job j).d = (s.part.job j).d ∧
      (tag.toNat = (s.part.job j).passNo → value.toNat < (s.part.job j).v →
        t.part.faultCode = .publishBackwards ∧ t.part.faultDetail = j.val ∧ t.port.has .fault) ∧
      (tag.toNat = (s.part.job j).passNo → (s.part.job j).v < value.toNat →
        min ((s.part.job j).f + (s.part.job j).record.depth) (s.part.job j).chunks < value.toNat →
        t.part.faultCode = .publishOverrun ∧ t.part.faultDetail = j.val ∧ t.port.has .fault) ∧
      (tag.toNat ≠ (s.part.job j).passNo → t.part.faultCode = s.part.faultCode) ∧
      (∀ k, k ≠ j → t.part.job k = s.part.job k) ∧ (∀ i, t.part.slot i = s.part.slot i)

/-- CONSUMED_COUNT_READ (R171): a count between the held and the written one is taken and frees that
room; any other is held back and reported as CONSUMED_AHEAD, once as long as it stays the same. The resets
leave the held count 0 and no refused one. -/
def Obligations.ConsumedCountIsJudged : Prop :=
  (∀ (h : List Host.Cell) (p : Bool) (s : Machine.State) (c : Word), s.wf →
    hostWritesFit s.part.straps h = true → s.part.scan = .inFlight .consumed p →
    (s.mem.apply h).word 0x40 = c →
    ∃ t, exec (.consumedCountRead false h) s = .next t ∧
      ((c - s.part.outcomes.held).toNat ≤ s.part.outcomes.unconsumed →
        t.part.outcomes = { s.part.outcomes with held := c } ∧ t.part.refused = none ∧
          t.part.faultCode = s.part.faultCode) ∧
      (s.part.outcomes.unconsumed < (c - s.part.outcomes.held).toNat →
        t.part.outcomes = s.part.outcomes ∧ t.part.refused = some c ∧
          (s.part.refused ≠ some c → t.part.faultCode = .consumedAhead ∧
            t.mem.value 0x114 1 = FaultCode.consumedAhead.code ∧ t.port.has .fault) ∧
          (s.part.refused = some c → t.part.faultCode = s.part.faultCode ∧ t.port = s.port ∧
            t.mem = s.mem.apply h)) ∧
      t.part.scan = (if p then .inFlight .commandCount false else .idle)) ∧
  ∀ (x : Straps) (m : Memory) (q : List Instr),
    (State.resetWith x m q).part.outcomes.held = 0 ∧ (State.resetWith x m q).part.refused = none

/-- UNKNOWN_COMMAND: a code that names no command is refused with words 0 and changes nothing; the
results stand in the exchange block. -/
def Obligations.UnknownCommandIsRefused : Prop :=
  ∀ (s : Machine.State) (c : CommandCell), s.wf → s.part.command = .executing c →
    c.code ∉ commandCodes →
    ∃ t, exec .unknownCommand s = .next t ∧ RefusedWith s t c .unknownCommand 0 0 ∧
      t.mem.word 0x100 = c.count ∧ t.mem.word 0x104 = 2 ∧ t.mem.word 0x108 = 0 ∧
      t.mem.word 0x10C = 0 ∧
      t.part.command = if s.part.engine = .enabled ∧ s.part.latestCount ≠ c.count
        then .readingCell else .idle

/-! ### Settings (R174, R161) -/

/-- APPLY_SETTINGS and the return of its record: with the outcome list unchanged every setting takes its
clamped value, and the command ends DONE, or DONE_CLAMPED with the mask; a changed list is judged
first; a read error is refused with BAD_RECORD AREA_READ, area 0. A slot that has settled for the new settle
time enumerates at once, in every engine state (R59). A setting in its range is kept, one below becomes the
lowest and one above the highest value, and bits 0 to 9 of the mask say which were not kept; a K of 0 stays 0
and takes the offset as 0. -/
def Obligations.SettingsAreApplied : Prop :=
  (∀ (s : Machine.State) (c : CommandCell) (h : List Host.Cell),
     (s.executes codeApplySettings c →
       ∃ t, exec .applySettings s = .next t ∧ t.part = { s.part with command := .readingSettings c } ∧
         t.port = s.port ∧ t.mem = s.mem) ∧
     (hostWritesFit s.part.straps h = true → s.part.command = .readingSettings c →
       let n := readSettings (s.mem.apply h)
       (n.capacity = s.part.outcomes.capacity → n.offset = s.part.outcomes.offset →
         ∃ t, exec (.settingsRecordReadDone false h) s = .next t ∧ t.part.settings = n.settings ∧
           EndedWith t c (if n.mask = 0 then .done else .doneClamped) (BitVec.ofNat 32 n.mask) 0 ∧
           (n.settings.scanInterval ≠ s.part.settings.scanInterval → t.part.scanTimer = 0) ∧
           (∀ i, (s.part.slot i).state = .settling →
             n.settings.settleTime ≤ (s.part.slot i).settle →
             (t.part.slot i).state = .enumerating ∧
               (t.part.slot i).attempts = (s.part.slot i).attempts + 1 ∧
               { port := portOf i, kind := .portReset } ∈ (t.part.lane (laneOf i)).ready) ∧
           (∀ i, (s.part.slot i).state ≠ .settling ∨
               (s.part.slot i).settle < n.settings.settleTime →
             t.part.slot i = { s.part.slot i with
               desired := (t.part.slot i).desired,
               pendingLamp := (t.part.slot i).pendingLamp })) ∧
       (¬(n.capacity = s.part.outcomes.capacity ∧ n.offset = s.part.outcomes.offset) →
         ∃ t, exec (.settingsRecordReadDone false h) s = .next t ∧
           t.part = { s.part with command := .judgingList c n } ∧ t.port = s.port ∧
           t.mem = s.mem.apply h) ∧
       ∃ t, exec (.settingsRecordReadDone true h) s = .next t ∧
         EndedWith t c .badRecord (Detail.areaRead).code 0 ∧ t.part.settings = s.part.settings ∧
         t.part.faultCode = .areaRead ∧ t.part.faultDetail = 0 ∧ t.port.has .fault)) ∧
  (∀ m : Memory,
     let n := readSettings m
     n.settings.scanInterval ≤ 1000 ∧
       (100 ≤ n.settings.dataTimeout ∧ n.settings.dataTimeout ≤ 10000) ∧
       n.settings.retryLimit ≤ 7 ∧ (1 ≤ n.settings.errorBudget ∧ n.settings.errorBudget ≤ 255) ∧
       (16 ≤ n.settings.settleTime ∧ n.settings.settleTime ≤ 1024) ∧
       (1 ≤ n.settings.groupSize ∧ n.settings.groupSize ≤ 16) ∧
       (10 ≤ n.settings.groupInterval ∧ n.settings.groupInterval ≤ 1000) ∧
       (1 ≤ n.settings.sagLevel ∧ n.settings.sagLevel ≤ 13) ∧
       (n.capacity = 0 ∨ 16 ≤ n.capacity ∧ n.capacity ≤ 4096) ∧ (n.capacity = 0 → n.offset = 0)) ∧
  (∀ m : Memory,
     let n := readSettings m
     let raw := fun o => m.value (0x080 + o) 4
     (∀ x ∈ [(0x00, 0, 1000, n.settings.scanInterval, 0), (0x04, 100, 10000, n.settings.dataTimeout, 1),
             (0x08, 0, 7, n.settings.retryLimit, 2), (0x0C, 1, 255, n.settings.errorBudget, 3),
             (0x10, 16, 1024, n.settings.settleTime, 4), (0x14, 1, 16, n.settings.groupSize, 5),
             (0x18, 10, 1000, n.settings.groupInterval, 6), (0x1C, 1, 13, n.settings.sagLevel, 7)],
       (x.2.1 ≤ raw x.1 → raw x.1 ≤ x.2.2.1 → x.2.2.2.1 = raw x.1) ∧
       (raw x.1 < x.2.1 → x.2.2.2.1 = x.2.1) ∧ (x.2.2.1 < raw x.1 → x.2.2.2.1 = x.2.2.1) ∧
       n.mask.testBit x.2.2.2.2 = decide (raw x.1 < x.2.1 ∨ x.2.2.1 < raw x.1)) ∧
     n.settings.indicators = decide (raw 0x20 ≠ 0) ∧ n.mask.testBit 8 = decide (1 < raw 0x20) ∧
     (raw 0x24 = 0 → n.capacity = 0) ∧ (1 ≤ raw 0x24 → raw 0x24 < 16 → n.capacity = 16) ∧
     (16 ≤ raw 0x24 → raw 0x24 ≤ 4096 → n.capacity = raw 0x24) ∧
     (4096 < raw 0x24 → n.capacity = 4096) ∧
     n.mask.testBit 9 = decide (1 ≤ raw 0x24 ∧ raw 0x24 < 16 ∨ 4096 < raw 0x24) ∧ n.mask < 1024 ∧
     (raw 0x24 ≠ 0 → n.offset = raw 0x28))

/-- OUTCOME_LIST_CHANGE_JUDGE: refused WRONG_STATE while a record is unconsumed, BAD_RECORD AREA_RANGE
for an area out of range, AREA_CONFLICT for the first overlap; else offset, K and settings are taken. -/
def Obligations.ListChangeIsJudged : Prop :=
  ∀ (s : Machine.State) (c : CommandCell) (n : SettingsSnapshot),
    s.part.command = .judgingList c n → s.part.outcomes.writing = none →
    ∃ t, exec .outcomeListChangeJudge s = .next t ∧
      (s.part.outcomes.unconsumed ≠ 0 → RefusedWith s t c .wrongState 0 0) ∧
      (s.part.outcomes.unconsumed = 0 → n.capacity ≠ 0 →
        areaFits s.part.straps n.offset (128 * n.capacity) = false →
        RefusedWith s t c .badRecord (Detail.areaRange).code 4) ∧
      (∀ k, s.part.outcomes.unconsumed = 0 → n.capacity ≠ 0 →
        areaFits s.part.straps n.offset (128 * n.capacity) = true →
        firstOverlap n.offset (128 * n.capacity) ((6, 0, 4096) :: s.part.liveAreas none) = some k →
        RefusedWith s t c .areaConflict 5 (BitVec.ofNat 32 k)) ∧
      (s.part.outcomes.unconsumed = 0 →
        (n.capacity = 0 ∨ areaFits s.part.straps n.offset (128 * n.capacity) = true ∧
          firstOverlap n.offset (128 * n.capacity) ((6, 0, 4096) :: s.part.liveAreas none) = none) →
        t.part.settings = n.settings ∧ t.part.outcomes.offset = n.offset ∧
          t.part.outcomes.capacity = n.capacity ∧
          t.part.outcomes.written = s.part.outcomes.written ∧
          t.part.outcomes.held = s.part.outcomes.held ∧
          EndedWith t c (if n.mask = 0 then .done else .doneClamped) (BitVec.ofNat 32 n.mask) 0)

/-! ### Job contexts (chapter 1) -/

/-- A job number above 3 refuses every command that names a job with BAD_JOB_NUMBER. -/
def Obligations.JobCommandsNeedAJob : Prop :=
  ∀ (s : Machine.State) (c : CommandCell), jobOfByte c.job = none →
    (s.executes codeDefineJob c →
      ∃ t, exec .defineJob s = .next t ∧ RefusedWith s t c .badJobNumber 0 0) ∧
    (s.executes codeSetPriority c →
      ∃ t, exec .setPriority s = .next t ∧ RefusedWith s t c .badJobNumber 0 0) ∧
    (s.executes codePauseJob c →
      ∃ t, exec .pauseJob s = .next t ∧ RefusedWith s t c .badJobNumber 0 0) ∧
    (s.executes codeResumeJob c →
      ∃ t, exec .resumeJob s = .next t ∧ RefusedWith s t c .badJobNumber 0 0) ∧
    (s.executes codeCloseJob c →
      ∃ t, exec .closeJob s = .next t ∧ RefusedWith s t c .badJobNumber 0 0) ∧
    (s.executes codeAbortJob c →
      ∃ t, exec .abortJob s = .next t ∧ RefusedWith s t c .badJobNumber 0 0) ∧
    (s.executes codeReleaseJob c →
      ∃ t, exec .releaseJob s = .next t ∧ RefusedWith s t c .badJobNumber 0 0) ∧
    (s.executes codeStartPass c →
      ∃ t, exec .startPass s = .next t ∧ RefusedWith s t c .badJobNumber 0 0)

/-- DEFINE_JOB: the job must be VACANT and the record offset well placed; then the record is read.
JOB_RECORD_READ_DONE: a record with every field in range starts the read of its extent list; the first of
the nine checks of R10 that fails refuses it with that check's detail, and with the area code where the
extent list (1) or the staging area (2) is out of place; a read error with AREA_READ, area 0. -/
def Obligations.JobRecordIsReadAndChecked : Prop :=
  (∀ (s : Machine.State) (c : CommandCell) (j : JobIx), s.executes codeDefineJob c →
     jobOfByte c.job = some j →
     ((s.part.job j).state ≠ .vacant →
       ∃ t, exec .defineJob s = .next t ∧ RefusedWith s t c .wrongState 0 0) ∧
     ((s.part.job j).state = .vacant → areaFits s.part.straps c.param0.toNat 64 = false →
       ∃ t, exec .defineJob s = .next t ∧ RefusedWith s t c .badRecord (Detail.areaRange).code 0) ∧
     ((s.part.job j).state = .vacant → areaFits s.part.straps c.param0.toNat 64 = true →
       ∃ t, exec .defineJob s = .next t ∧
         t.part = { s.part with command := .readingJobRecord c j c.param0.toNat } ∧
         t.port = s.port ∧ t.mem = s.mem)) ∧
  (∀ (s : Machine.State) (c : CommandCell) (j : JobIx) (a : Nat) (h : List Host.Cell),
     hostWritesFit s.part.straps h = true → s.part.command = .readingJobRecord c j a →
     let r := readRecord (s.mem.apply h) a
     (∀ policy verify probe, 7 ≤ r.k → r.k ≤ 11 → 2 ≤ r.depth → r.depth ≤ 64 → 1 ≤ r.extentCount →
       r.extentCount ≤ 1024 → lagPolicyOf r.policy = some policy → 1 ≤ r.priority →
       r.priority ≤ 3 → verifyModeOf r.verify = some verify → probeModeOf r.probe = some probe →
       areaFits s.part.straps r.extentOffset (16 * r.extentCount) = true →
       areaFits s.part.straps r.stagingOffset (stagingBytes (2 ^ r.k) r.depth) = true →
       let copy : JobRecord :=
         { stagingOffset := r.stagingOffset, digestOffset := r.digestOffset, floor := r.floor,
           lagHold := r.lagHold, k := r.k, depth := r.depth, policy := policy, verify := verify,
           probe := probe, fill := r.fill, priority := r.priority }
       ∃ t, exec (.jobRecordReadDone false h) s = .next t ∧
         t.part = { s.part with
           command := .readingExtents c j copy r.extentOffset r.extentCount [] } ∧
         t.port = s.port ∧ t.mem = s.mem.apply h) ∧
     (let checks : List (Bool × Detail × Word) :=
        [(decide (7 ≤ r.k ∧ r.k ≤ 11), .chunkSize, 0),
         (decide (2 ≤ r.depth ∧ r.depth ≤ 64), .windowDepth, 0),
         (decide (1 ≤ r.extentCount ∧ r.extentCount ≤ 1024), .extentCount, 0),
         ((lagPolicyOf r.policy).isSome, .policy, 0),
         (decide (1 ≤ r.priority ∧ r.priority ≤ 3), .priority, 0),
         ((verifyModeOf r.verify).isSome, .verifyMode, 0),
         ((probeModeOf r.probe).isSome, .probeMode, 0),
         (areaFits s.part.straps r.extentOffset (16 * r.extentCount), .areaRange, 1),
         (areaFits s.part.straps r.stagingOffset (stagingBytes (2 ^ r.k) r.depth), .areaRange, 2)]
      ∀ x, checks.find? (fun x => !x.1) = some x →
        ∃ t, exec (.jobRecordReadDone false h) s = .next t ∧
          RefusedWith (s.hostWrote h) t c .badRecord x.2.1.code x.2.2) ∧
     ∃ t, exec (.jobRecordReadDone true h) s = .next t ∧
       EndedWith t c .badRecord (Detail.areaRead).code 0 ∧ t.part.faultCode = .areaRead ∧
       t.part.faultDetail = 0 ∧ t.port.has .fault ∧ ∀ k, t.part.job k = s.part.job k)

/-- EXTENT_ENTRY_READ before the last entry: a sound entry is copied and the next is read; the first of the
four conditions of R4 that any entry does not meet refuses it with that condition's detail, the entry's number
in word 2; a read error with AREA_READ, area 1. -/
def Obligations.ExtentsAreRead : Prop :=
  ∀ (s : Machine.State) (c : CommandCell) (j : JobIx) (rec : JobRecord) (a count : Nat)
    (es : List Extent) (h : List Host.Cell), hostWritesFit s.part.straps h = true →
    s.part.command = .readingExtents c j rec a count es →
    let e := readExtent (s.mem.apply h) (a + 16 * es.length)
    (∀ kind, extentKindOf e.2.2 = some kind → e.2.1 ≠ 0 → e.1 + e.2.1 ≤ 4294967295 →
      (∀ x, es.getLast? = some x → x.first + x.count ≤ e.1) → es.length + 1 < count →
      let x : Extent := { first := e.1, count := e.2.1, kind := kind }
      ∃ t, exec (.extentEntryRead false h) s = .next t ∧
        t.part = { s.part with command := .readingExtents c j rec a count (es ++ [x]) } ∧
        t.port = s.port ∧ t.mem = s.mem.apply h) ∧
    (let checks : List (Bool × Detail) :=
       [(decide (e.2.2 = 1 ∨ e.2.2 = 2), .extentKind), (decide (1 ≤ e.2.1), .extentEmpty),
        (decide (e.1 + e.2.1 ≤ 4294967295), .imageSpan),
        (match es.getLast? with
          | none => true
          | some x => decide (x.first + x.count ≤ e.1), .extentOrder)]
     ∀ x, checks.find? (fun x => !x.1) = some x →
       ∃ t, exec (.extentEntryRead false h) s = .next t ∧
         RefusedWith (s.hostWrote h) t c .badRecord x.2.code (BitVec.ofNat 32 es.length)) ∧
    ∃ t, exec (.extentEntryRead true h) s = .next t ∧
      EndedWith t c .badRecord (Detail.areaRead).code 1 ∧ t.part.faultCode = .areaRead ∧
      t.part.faultDetail = 1 ∧ t.port.has .fault ∧ ∀ k, t.part.job k = s.part.job k

/-- EXTENT_ENTRY_READ of the last entry, with every area sound: the job is STANDBY with its geometry
derived and its counts 0, the IDLE slots mapped to it are admitted, and the command ends DONE with N and
Wb. An N above 1,048,576 is refused IMAGE_SPAN, then a digest list out of place AREA_RANGE with area code
3, then the first overlap of the staging area, then of the digest list, AREA_CONFLICT with word 1 naming
the area (2, 3) and word 2 what it overlaps. -/
def Obligations.JobIsDefined : Prop :=
  ∀ (s : Machine.State) (c : CommandCell) (j : JobIx) (rec : JobRecord) (a count : Nat)
    (es : List Extent) (x : Extent) (h : List Host.Cell), hostWritesFit s.part.straps h = true →
    s.part.command = .readingExtents c j rec a count es →
    checkExtent (es.getLast?.map Extent.stop)
      (readExtent (s.mem.apply h) (a + 16 * es.length)) = .ok x →
    count ≤ es.length + 1 →
    let all := es ++ [x]
    let n := chunkCount (imageSpan all) (2 ^ rec.k)
    let staging := (rec.stagingOffset, stagingBytes (2 ^ rec.k) rec.depth)
    let digest := (rec.digestOffset, digestBytes n)
    (1048576 < n →
      ∃ t, exec (.extentEntryRead false h) s = .next t ∧
        RefusedWith (s.hostWrote h) t c .badRecord (Detail.imageSpan).code 0) ∧
    (n ≤ 1048576 → areaFits s.part.straps digest.1 digest.2 = false →
      ∃ t, exec (.extentEntryRead false h) s = .next t ∧
        RefusedWith (s.hostWrote h) t c .badRecord (Detail.areaRange).code 3) ∧
    (∀ k, n ≤ 1048576 → areaFits s.part.straps digest.1 digest.2 = true →
      firstOverlap staging.1 staging.2 (s.part.otherAreas j digest) = some k →
      ∃ t, exec (.extentEntryRead false h) s = .next t ∧
        RefusedWith (s.hostWrote h) t c .areaConflict 2 (BitVec.ofNat 32 k)) ∧
    (∀ k, n ≤ 1048576 → areaFits s.part.straps digest.1 digest.2 = true →
      firstOverlap staging.1 staging.2 (s.part.otherAreas j digest) = none →
      firstOverlap digest.1 digest.2 (s.part.otherAreas j staging) = some k →
      ∃ t, exec (.extentEntryRead false h) s = .next t ∧
        RefusedWith (s.hostWrote h) t c .areaConflict 3 (BitVec.ofNat 32 k)) ∧
    (n ≤ 1048576 → areaFits s.part.straps digest.1 digest.2 = true →
    firstOverlap staging.1 staging.2 (s.part.otherAreas j digest) = none →
    firstOverlap digest.1 digest.2 (s.part.otherAreas j staging) = none →
    ∃ t, exec (.extentEntryRead false h) s = .next t ∧ (t.part.job j).state = .standby ∧
      (t.part.job j).definition =
        { record := rec, extents := all, span := imageSpan all, chunkSize := 2 ^ rec.k,
          chunks := n, blocks := writtenTotal all } ∧
      (t.part.job j).priority = rec.priority ∧ (t.part.job j).passNo = 0 ∧
      (t.part.job j).passActive = false ∧ (t.part.job j).v = 0 ∧ (t.part.job j).p = 0 ∧
      (t.part.job j).i = 0 ∧ (t.part.job j).f = 0 ∧ (t.part.job j).d = 0 ∧
      (∀ k, k ≠ j → t.part.job k = s.part.job k) ∧
      (∀ i, (s.part.slot i).state = .idle → s.part.mapOf i = some j →
        (t.part.slot i).state = .sizing ∧ (t.part.slot i).member = some j) ∧
      (∀ i, ¬((s.part.slot i).state = .idle ∧ s.part.mapOf i = some j) →
        t.part.slot i = s.part.slot i) ∧
      EndedWith t c .done (BitVec.ofNat 32 n) (BitVec.ofNat 32 (writtenTotal all)) ∧
      t.port.has .jobChanged)

/-- SET_PRIORITY (R18): refused in VACANT and for a level outside 1 to 3; else the level is taken, and
nothing else of the job, no intake and no transaction is changed and JOB_CHANGED is not raised. The
digest unit and the arbiters read the level at each choice. -/
def Obligations.PriorityIsSet : Prop :=
  ∀ (s : Machine.State) (c : CommandCell) (j : JobIx),
    (s.executes codeSetPriority c → jobOfByte c.job = some j →
      ((s.part.job j).state = .vacant →
        ∃ t, exec .setPriority s = .next t ∧ RefusedWith s t c .wrongState 0 0) ∧
      ((s.part.job j).state ≠ .vacant → c.param0.toNat < 1 ∨ 3 < c.param0.toNat →
        ∃ t, exec .setPriority s = .next t ∧ RefusedWith s t c .badRecord (Detail.priority).code 0) ∧
      ((s.part.job j).state ≠ .vacant → 1 ≤ c.param0.toNat → c.param0.toNat ≤ 3 →
        ∃ t, exec .setPriority s = .next t ∧
          t.part.job j = { s.part.job j with priority := c.param0.toNat } ∧
          (∀ k, k ≠ j → t.part.job k = s.part.job k) ∧ t.part.intake = s.part.intake ∧
          (∀ l, t.part.lane l = s.part.lane l) ∧ (∀ i, t.part.slot i = s.part.slot i) ∧
          EndedWith t c .done 0 0 ∧
          (t.port.has .jobChanged → s.port.has .jobChanged))) ∧
    (∀ k k', s.part.chosenJob = some k → s.part.intakeDue k' = true →
      (s.part.job k').priority ≤ (s.part.job k).priority) ∧
    (∀ i x, s.part.candidate i = some x → x.level = (s.part.job x.job).priority)

/-- PAUSE_JOB: from STANDBY or RUNNING the state is remembered and the job is PAUSED, or PAUSING while a
DATA transaction of it is in flight; members, counts and the pass stay; else WRONG_STATE. RESUME_JOB:
from PAUSING or PAUSED the job enters its remembered state, in which its DATA transactions are ready
again; those in flight are left; else WRONG_STATE. -/
def Obligations.JobIsPausedAndResumed : Prop :=
  (∀ (s : Machine.State) (c : CommandCell) (j : JobIx), s.executes codePauseJob c →
     jobOfByte c.job = some j →
     (∀ r, (s.part.job j).state.remember = some r →
       ∃ t, exec .pauseJob s = .next t ∧
         (t.part.job j).state = (if s.part.dataInFlight j then .pausing else .paused) ∧
         (t.part.job j).remembered = r ∧ (t.part.job j).passActive = (s.part.job j).passActive ∧
         (t.part.job j).i = (s.part.job j).i ∧ (t.part.job j).f = (s.part.job j).f ∧
         (t.part.job j).p = (s.part.job j).p ∧ (∀ k, k ≠ j → t.part.job k = s.part.job k) ∧
         (∀ i, t.part.slot i = s.part.slot i) ∧ (∀ l, t.part.lane l = s.part.lane l) ∧
         EndedWith t c .done 0 0 ∧ t.port.has .jobChanged) ∧
     ((s.part.job j).state.remember = none →
       ∃ t, exec .pauseJob s = .next t ∧ RefusedWith s t c .wrongState 0 0)) ∧
  (∀ (s : Machine.State) (c : CommandCell) (j : JobIx), s.executes codeResumeJob c →
     jobOfByte c.job = some j →
     ((s.part.job j).state = .pausing ∨ (s.part.job j).state = .paused →
       ∃ t, exec .resumeJob s = .next t ∧
         (t.part.job j).state = (s.part.job j).remembered.jobState ∧
         (t.part.job j).state.holdsData = false ∧
         (t.part.job j).passActive = (s.part.job j).passActive ∧
         (∀ k, k ≠ j → t.part.job k = s.part.job k) ∧
         (∀ i, t.part.slot i = s.part.slot i) ∧ (∀ l, t.part.lane l = s.part.lane l) ∧
         (s.part.lagCondition j = true → (s.part.job j).lagSpent = false →
           (t.part.job j).lagTimer = (s.part.job j).lagTimer) ∧
         EndedWith t c .done 0 0 ∧ t.port.has .jobChanged) ∧
     ((s.part.job j).state ≠ .pausing → (s.part.job j).state ≠ .paused →
       ∃ t, exec .resumeJob s = .next t ∧ RefusedWith s t c .wrongState 0 0))

/-- CLOSE_JOB: from STANDBY or RUNNING the job is CLOSING, or ENDED at once with no non-terminal member
and no intake; with no pass active its READY and DEFERRED members fail JOB_CLOSED; else WRONG_STATE.
RELEASE_JOB: an ENDED job is VACANT and its memberships end; else WRONG_STATE. -/
def Obligations.JobIsClosedAndReleased : Prop :=
  (∀ (s : Machine.State) (c : CommandCell) (j : JobIx), s.executes codeCloseJob c →
     jobOfByte c.job = some j →
     ((s.part.job j).state = .standby ∨ (s.part.job j).state = .running →
       ∃ t, exec .closeJob s = .next t ∧
         (t.part.job j).state = (if t.part.hasLiveMember j || (s.part.job j).intakeInFlight
           then .closing else .ended) ∧
         (∀ i, (s.part.job j).passActive = false → (s.part.slot i).member = some j →
           (s.part.slot i).state = .ready ∨ (s.part.slot i).state = .deferred →
           (t.part.slot i).state = .failed ∧ (t.part.slot i).reason = .jobClosed) ∧
         (∀ i, ¬((s.part.job j).passActive = false ∧ (s.part.slot i).member = some j ∧
           ((s.part.slot i).state = .ready ∨ (s.part.slot i).state = .deferred)) →
           t.part.slot i = s.part.slot i) ∧
         EndedWith t c .done 0 0 ∧ t.port.has .jobChanged) ∧
     ((s.part.job j).state ≠ .standby → (s.part.job j).state ≠ .running →
       ∃ t, exec .closeJob s = .next t ∧ RefusedWith s t c .wrongState 0 0)) ∧
  (∀ (s : Machine.State) (c : CommandCell) (j : JobIx), s.executes codeReleaseJob c →
     jobOfByte c.job = some j →
     ((s.part.job j).state = .ended →
       ∃ t, exec .releaseJob s = .next t ∧
         t.part.job j = { s.part.job j with state := .vacant } ∧
         (∀ k, k ≠ j → t.part.job k = s.part.job k) ∧
         (∀ i, t.part.slot i = if (s.part.slot i).member = some j
           then { s.part.slot i with member := none } else s.part.slot i) ∧
         (t.part.job j).liveAreas = [] ∧ (∀ st, t.part.memberCount j st = 0) ∧
         (∀ i, t.part.mapOf i = s.part.mapOf i) ∧ t.part.outcomes = s.part.outcomes ∧
         EndedWith t c .done 0 0 ∧ t.port.has .jobChanged) ∧
     ((s.part.job j).state ≠ .ended →
       ∃ t, exec .releaseJob s = .next t ∧ RefusedWith s t c .wrongState 0 0))

/-- ABORT_JOB: the pass-active flag clears, the counts freeze, every non-terminal member fails ABORTED,
at once or when its transaction in flight ends, and the job is ABORTING, or ENDED with none left; in
ABORTING nothing changes; else WRONG_STATE. -/
def Obligations.JobIsAborted : Prop :=
  ∀ (s : Machine.State) (c : CommandCell) (j : JobIx), s.executes codeAbortJob c →
    jobOfByte c.job = some j →
    ((s.part.job j).state.abortable = true →
      ∃ t, exec .abortJob s = .next t ∧
        (t.part.job j).state = (if t.part.hasLiveMember j || (s.part.job j).intakeInFlight
          then .aborting else .ended) ∧
        (t.part.job j).passActive = false ∧ (t.part.job j).faultDetail = some .aborted ∧
        (t.part.job j).v = (s.part.job j).v ∧ (t.part.job j).p = (s.part.job j).p ∧ (t.part.job j).i = (s.part.job j).i ∧
        (t.part.job j).f = (s.part.job j).f ∧ (t.part.job j).d = (s.part.job j).d ∧
        (∀ i, (s.part.slot i).member = some j → (s.part.slot i).state.live = true →
          (s.part.slot i).pendingEnd = .none →
          if s.part.stickInFlight i
          then (t.part.slot i).state = (s.part.slot i).state ∧
            (t.part.slot i).pendingEnd = .aborted
          else (t.part.slot i).state = .failed ∧ (t.part.slot i).reason = .aborted) ∧
        (∀ i, (s.part.slot i).member ≠ some j → t.part.slot i = s.part.slot i) ∧
        EndedWith t c .done 0 0 ∧ t.port.has .jobChanged) ∧
    ((s.part.job j).state = .aborting →
      ∃ t, exec .abortJob s = .next t ∧ RefusedWith s t c .done 0 0) ∧
    ((s.part.job j).state = .vacant ∨ (s.part.job j).state = .ended →
      ∃ t, exec .abortJob s = .next t ∧ RefusedWith s t c .wrongState 0 0)

/-! ### Staging and passes (chapter 2) -/

/-- START_PASS: in STANDBY, with s below N and at most D and a member to join, the pass number rises, v
and I are s, F is the least of I and the write cursors and P follows it, no publish field has been seen,
the eligible members are WRITING at their settled resume points, and the job runs; the checks refuse in
their order. -/
def Obligations.PassStarts : Prop :=
  ∀ (s : Machine.State) (c : CommandCell) (j : JobIx), s.executes codeStartPass c →
    jobOfByte c.job = some j →
    let x := s.part.job j
    let first := c.param0.toNat
    (x.state = .standby → x.passNo ≠ 65535 → first < x.chunks → first ≤ x.d →
      s.part.joiners j first ≠ [] →
      ∃ t, exec .startPass s = .next t ∧ (t.part.job j).state = .running ∧
        (t.part.job j).passActive = true ∧ (t.part.job j).passNo = x.passNo + 1 ∧
        (t.part.job j).v = first ∧ (t.part.job j).i = first ∧
        (t.part.job j).f = t.part.lowestCursor j ∧ (t.part.job j).d = x.d ∧
        (t.part.job j).p = min first (min ((t.part.job j).f + x.record.depth) x.chunks) ∧
        (t.part.job j).lastSeen = none ∧
        (∀ i r, (i, r) ∈ s.part.joiners j first → (t.part.slot i).state = .writing ∧
          ((t.part.slot i).writeChunk, (t.part.slot i).writeOffset) = x.settleWriteAt first r) ∧
        (∀ i, (∀ r, (i, r) ∉ s.part.joiners j first) → t.part.slot i = s.part.slot i) ∧
        (∀ k, k ≠ j → t.part.job k = s.part.job k) ∧
        EndedWith t c .done (BitVec.ofNat 32 (x.passNo + 1))
          (BitVec.ofNat 32 (s.part.joiners j first).length) ∧ t.port.has .jobChanged) ∧
    (x.state ≠ .standby ∨ x.passNo = 65535 →
      ∃ t, exec .startPass s = .next t ∧ RefusedWith s t c .wrongState 0 0) ∧
    (x.state = .standby → x.passNo ≠ 65535 → x.chunks ≤ first ∨ x.d < first →
      ∃ t, exec .startPass s = .next t ∧ RefusedWith s t c .badRecord (Detail.start).code 0) ∧
    (x.state = .standby → x.passNo ≠ 65535 → first < x.chunks → first ≤ x.d →
      s.part.joiners j first = [] →
      ∃ t, exec .startPass s = .next t ∧ RefusedWith s t c .noSlots 0 0)

/-- INTAKE_START: the idle digest unit takes chunk I of a due job that no due job outranks, a re-intake
below D; no other job, no slot and no byte of the window changes. -/
def Obligations.IntakeStarts : Prop :=
  ∀ (s : Machine.State) (j : JobIx), s.part.reports = true → s.part.intake = none →
    s.part.chosenJob = some j →
    ∃ t, exec .intakeStart s = .next t ∧
      t.part.intake = some { job := j, chunk := (s.part.job j).i, crc := crcInit,
                             reIntake := decide ((s.part.job j).i < (s.part.job j).d) } ∧
      t.part.job j = { s.part.job j with intakeInFlight := true } ∧
      (∀ k, k ≠ j → t.part.job k = s.part.job k) ∧ (∀ i, t.part.slot i = s.part.slot i) ∧
      t.mem = s.mem ∧ t.port = s.port ∧ s.part.intakeDue j = true ∧
      ∀ k, s.part.intakeDue k = true → (s.part.job k).priority ≤ (s.part.job j).priority

/-- INTAKE_DONE of a first intake: digest entry n takes the CRC and the class, and I and D become
n + 1; beyond the exchange block no other byte changes. -/
def Obligations.FirstIntakeIsTakenIn : Prop :=
  ∀ (s : Machine.State) (x : Intake) (h : List Host.Cell), s.wf →
    hostWritesFit s.part.straps h = true → s.part.intake = some x → x.reIntake = false →
    (s.part.job x.job).state ≠ .aborting → 4096 ≤ (s.part.job x.job).record.digestOffset →
    let c := s.part.job x.job
    let entry := c.record.digestOffset + 8 * x.chunk
    ∃ t, exec (.intakeDone .ok h) s = .next t ∧ (t.part.job x.job).i = x.chunk + 1 ∧
      (t.part.job x.job).d = x.chunk + 1 ∧
      t.mem.readBytes entry 8 =
        digestBytesOf (c.chunkCrc (s.mem.apply h) x.chunk x.crc) (c.chunkClass x.chunk) ∧
      ∀ a, a < 0x100 ∨ 0x1000 ≤ a → a < entry ∨ entry + 8 ≤ a →
        t.mem.read a = (s.mem.apply h).read a

/-- INTAKE_DONE of a re-intake and of an intake with a read error: an equal entry takes I to n + 1 and
leaves D; another aborts the job with IMAGE_CHANGED; a read error leaves I and D and reports AREA_READ;
no byte beyond the exchange block changes. That the cell and the entry are read at the command is log
entry 21, and that an ABORTING job's read error is reported too is log entry 35: the model's choices. -/
def Obligations.OtherIntakesEnd : Prop :=
  ∀ (s : Machine.State) (x : Intake) (h : List Host.Cell),
    hostWritesFit s.part.straps h = true → s.part.intake = some x →
    let c := s.part.job x.job
    let m := s.mem.apply h
    let same := digestEqual m (c.record.digestOffset + 8 * x.chunk) (c.chunkCrc m x.chunk x.crc)
      (c.chunkClass x.chunk)
    (x.reIntake = true → c.state ≠ .aborting → same = true →
      ∃ t, exec (.intakeDone .ok h) s = .next t ∧ (t.part.job x.job).i = x.chunk + 1 ∧
        (t.part.job x.job).d = c.d ∧ ForeignBytesKept (s.hostWrote h) t) ∧
    (x.reIntake = true → c.state ≠ .aborting → same = false →
      ∃ t, exec (.intakeDone .ok h) s = .next t ∧
        (t.part.job x.job).faultDetail = some .imageChanged ∧
        (t.part.job x.job).passActive = false ∧
        ((t.part.job x.job).state = .aborting ∨ (t.part.job x.job).state = .ended) ∧
        (t.part.job x.job).i = c.i ∧ (t.part.job x.job).d = c.d ∧
        ForeignBytesKept (s.hostWrote h) t) ∧
    (c.state = .aborting →
      ∃ t, exec (.intakeDone .ok h) s = .next t ∧ (t.part.job x.job).i = c.i ∧
        (t.part.job x.job).d = c.d ∧ ForeignBytesKept (s.hostWrote h) t) ∧
    (c.chunkClass x.chunk = .data →
      ∃ t, exec (.intakeDone .cellError h) s = .next t ∧ (t.part.job x.job).i = c.i ∧
        (t.part.job x.job).d = c.d ∧ t.part.faultCode = .areaRead ∧ t.part.faultDetail = 2 ∧
        t.port.has .fault ∧ ForeignBytesKept (s.hostWrote h) t) ∧
    (x.reIntake = true →
      ∃ t, exec (.intakeDone .digestError h) s = .next t ∧ (t.part.job x.job).i = c.i ∧
        (t.part.job x.job).d = c.d ∧ t.part.faultCode = .areaRead ∧ t.part.faultDetail = 3 ∧
        t.port.has .fault ∧ ForeignBytesKept (s.hostWrote h) t)

/-- JOB_PAUSED, JOB_ENDED and PASS_END: a PAUSING job with no DATA transaction in flight is PAUSED; a
CLOSING or ABORTING job with no non-terminal member and no intake is ENDED; a pass with an empty active
set and no intake ends, its job going to STANDBY, in PAUSING and PAUSED as its remembered state, with
REWIND_NEEDED for members that wait, or, in a closing job, failing them JOB_CLOSED. -/
def Obligations.JobTransitionsAreMade : Prop :=
  ∀ (s : Machine.State) (j : JobIx),
    ((s.part.job j).state = .pausing → s.part.dataInFlight j = false →
      ∃ t, exec (.jobPaused j) s = .next t ∧
        t.part.job j = { s.part.job j with state := .paused } ∧
        (∀ i, t.part.slot i = s.part.slot i) ∧ Raised s t .jobChanged) ∧
    ((s.part.job j).state = .closing ∨ (s.part.job j).state = .aborting →
      s.part.hasLiveMember j = false → (s.part.job j).intakeInFlight = false →
      ∃ t, exec (.jobEnded j) s = .next t ∧
        t.part.job j = { s.part.job j with state := .ended } ∧
        (∀ i, t.part.slot i = s.part.slot i) ∧ Raised s t .jobChanged) ∧
    ((s.part.job j).passActive = true → s.part.activeSet j = [] →
      (s.part.job j).intakeInFlight = false →
      ∃ t, exec (.passEnd j) s = .next t ∧ (t.part.job j).passActive = false ∧
        (t.part.job j).lagTimer = 0 ∧ (t.part.job j).i = (s.part.job j).i ∧
        (t.part.job j).d = (s.part.job j).d ∧ Raised s t .jobChanged ∧
        ((s.part.job j).state = .running → (t.part.job j).state = .standby) ∧
        ((s.part.job j).state = .pausing ∨ (s.part.job j).state = .paused →
          (t.part.job j).state = (s.part.job j).state ∧ (t.part.job j).remembered = .standby) ∧
        ((s.part.job j).state ≠ .closing → s.part.resumePoints j ≠ [] →
          Raised s t .rewindNeeded) ∧
        ((s.part.job j).state ≠ .closing → ∀ i, t.part.slot i = s.part.slot i) ∧
        ((s.part.job j).state = .closing → ∀ i, (s.part.slot i).member = some j →
          (s.part.slot i).state = .ready ∨ (s.part.slot i).state = .deferred →
          (t.part.slot i).state = .failed ∧ (t.part.slot i).reason = .jobClosed))

/-- LAG_HOLD_TIMER_EXPIRY: the timer stops; a laggard with a stick transaction in flight is marked; one
without ends its marking at once: FAILED LAGGARD under FAIL, DEFERRED at the start of its chunk under
DEFER; one that holds a pending end is not marked. The spent mark stands while a marked slot waits for
its transaction; where no laggard was marked it stands while the lag condition holds, the timer at its
value (log entry 36, the model's choice). -/
def Obligations.LaggardsAreMarked : Prop :=
  ∀ (s : Machine.State) (j : JobIx), s.part.lagExpired j = true →
    (s.part.job j).state ≠ .closing → (s.part.job j).state ≠ .aborting →
    ∃ t, exec (.lagHoldTimerExpiry j) s = .next t ∧
      ((∀ i, i ∈ s.part.laggards j → (s.part.slot i).pendingEnd ≠ .none) →
        s.part.lagCondition j = true → (s.part.job j).f = s.part.lowestCursor j →
        (t.part.job j).lagSpent = true ∧
          (t.part.job j).lagRunning = false ∧
          (t.part.job j).lagTimer = (s.part.job j).lagTimer ∧
          ∀ i, t.part.slot i = s.part.slot i) ∧
      ((∃ i, i ∈ s.part.laggards j ∧ (s.part.slot i).pendingEnd = .none ∧
          s.part.stickInFlight i = true) → (s.part.job j).record.policy ≠ .wait →
        (t.part.job j).lagSpent = true ∧ (t.part.job j).lagRunning = false) ∧
      (∀ i, i ∈ s.part.laggards j → (s.part.slot i).pendingEnd = .none →
        s.part.stickInFlight i = true → (t.part.slot i).state = .writing ∧
          (t.part.slot i).pendingEnd = (s.part.job j).record.policy.mark) ∧
      (∀ i, i ∈ s.part.laggards j → (s.part.slot i).pendingEnd = .none →
        s.part.stickInFlight i = false → (s.part.job j).record.policy = .fail →
        (t.part.slot i).state = .failed ∧ (t.part.slot i).reason = .laggard) ∧
      (∀ i, i ∈ s.part.laggards j → (s.part.slot i).pendingEnd = .none →
        s.part.stickInFlight i = false → (s.part.job j).record.policy = .defer →
        (t.part.slot i).state = .deferred ∧ (t.part.slot i).writeOffset = 0 ∧
          (t.part.slot i).writeChunk = (s.part.slot i).writeChunk) ∧
      (∀ i, i ∉ s.part.laggards j → (s.part.slot i).state ≠ .ready →
        (s.part.slot i).state ≠ .deferred → t.part.slot i = s.part.slot i)

/-! ### Slots (chapter 3) -/

/-- ASSIGN_SLOTS: the map entries of the range take the job, IDLE slots of an admitting job become SIZING
members and word 1 counts them; a range with another job's working member is refused SLOT_BUSY with that
slot, one out of range BAD_SLOT, another job field BAD_JOB_NUMBER. -/
def Obligations.SlotsAreAssigned : Prop :=
  ∀ (s : Machine.State) (c : CommandCell), s.executes codeAssignSlots c →
    let first := c.slot.toNat
    let count := c.slotCount.toNat
    let is := slotRange first count
    (assignedJob c.job = none →
      ∃ t, exec .assignSlots s = .next t ∧ RefusedWith s t c .badJobNumber 0 0) ∧
    (∀ m, assignedJob c.job = some m → count = 0 ∨ 256 < first + count →
      ∃ t, exec .assignSlots s = .next t ∧ RefusedWith s t c .badSlot 0 0) ∧
    (∀ m i, assignedJob c.job = some m → count ≠ 0 → first + count ≤ 256 →
      is.find? (s.part.busyFor m) = some i →
      ∃ t, exec .assignSlots s = .next t ∧
        RefusedWith s t c .slotBusy (BitVec.ofNat 32 i.val) 0) ∧
    (∀ m, assignedJob c.job = some m → count ≠ 0 → first + count ≤ 256 →
      is.find? (s.part.busyFor m) = none →
      ∃ t, exec .assignSlots s = .next t ∧
        (∀ i, t.part.mapOf i = if i ∈ is then m else s.part.mapOf i) ∧
        (∀ i, i ∈ s.part.admissible is m → (t.part.slot i).state = .sizing ∧
          (t.part.slot i).member = m) ∧
        (∀ i, i ∉ s.part.admissible is m → t.part.slot i = s.part.slot i) ∧
        (∀ j, t.part.job j = s.part.job j) ∧
        EndedWith t c .done (BitVec.ofNat 32 (s.part.admissible is m).length) 0)

/-- SET_FILTER and the return of its record: entries and mask replace the old ones together; an offset
out of place is BAD_RECORD AREA_RANGE, a read error AREA_READ. The first valid entry of a stick's two ids
decides with its action, and without one the mask bit of the bucket that the CRC-32 of the ids names; a stick
rejected as its last enumeration step ends GOOD is REJECTED FILTERED, with a record. SET_INDICATOR: the override is taken, the
desired indicator recomputed, and its request pending and ready, on a lane that is not UP too (log entry
26), unless it is the last-sent one, which withdraws it, also behind a request in flight (log entry 40, the
model's choices); other slots, and the rest of the slot, are as before. An indicator request that ends GOOD
makes its value the last-sent one; any other end, by completion or expiry, makes it pending again unless a
newer value waits or the desired one is the last-sent one. -/
def Obligations.FilterAndIndicatorAreSet : Prop :=
  (∀ (s : Machine.State) (c : CommandCell) (a : Nat) (h : List Host.Cell),
     (s.executes codeSetFilter c → areaFits s.part.straps c.param0.toNat 72 = true →
       ∃ t, exec .setFilter s = .next t ∧
         t.part = { s.part with command := .readingFilter c c.param0.toNat } ∧ t.port = s.port ∧
         t.mem = s.mem) ∧
     (s.executes codeSetFilter c → areaFits s.part.straps c.param0.toNat 72 = false →
       ∃ t, exec .setFilter s = .next t ∧ RefusedWith s t c .badRecord (Detail.areaRange).code 0) ∧
     (hostWritesFit s.part.straps h = true → s.part.command = .readingFilter c a →
       (∃ t, exec (.filterRecordReadDone false h) s = .next t ∧
         t.part.filter = readFilter (s.mem.apply h) a ∧ EndedWith t c .done 0 0 ∧
         (∀ i, t.part.slot i = s.part.slot i) ∧ (∀ j, t.part.job j = s.part.job j) ∧
         (∀ i, t.part.mapOf i = s.part.mapOf i)) ∧
       ∃ t, exec (.filterRecordReadDone true h) s = .next t ∧ t.part.filter = s.part.filter ∧
         EndedWith t c .badRecord (Detail.areaRead).code 0 ∧ AreaFault t 0)) ∧
  (∀ (s : Machine.State) (c : CommandCell), s.executes codeSetIndicator c →
     (slotOfNat c.slot.toNat = none →
       ∃ t, exec .setIndicator s = .next t ∧ RefusedWith s t c .badSlot 0 0) ∧
     (∀ i, slotOfNat c.slot.toNat = some i → overrideOf c.param0.toNat = none →
       ∃ t, exec .setIndicator s = .next t ∧
         RefusedWith s t c .badRecord (Detail.indicatorMode).code 0) ∧
     (∀ i o, slotOfNat c.slot.toNat = some i → overrideOf c.param0.toNat = some o →
       let lamp := s.part.desiredLamp { s.part.slot i with override := o }
       ∃ t, exec .setIndicator s = .next t ∧ EndedWith t c .done 0 0 ∧
         t.part.slot i = { s.part.slot i with
           override := o, desired := lamp,
           pendingLamp := if (s.part.slot i).lastSent = some lamp then none else some lamp } ∧
         t.part.isReady i .lamp = decide ((s.part.slot i).lastSent ≠ some lamp) ∧
         (∀ k, k ≠ i → t.part.slot k = s.part.slot k) ∧ ∀ j, t.part.job j = s.part.job j)) ∧
  (∀ (f : AdmissionFilter) (v p : Half),
     let fits := fun n : Fin 8 => (f.entries.get n).valid = true ∧ (f.entries.get n).vendor = v ∧
       (f.entries.get n).product = p
     let crc := crc32 [v.setWidth 8, (v >>> 8).setWidth 8, p.setWidth 8, (p >>> 8).setWidth 8]
     (∀ n, fits n → (∀ m, m < n → ¬ fits m) → f.rejects v p = (f.entries.get n).reject) ∧
     ((∀ n, ¬ fits n) → f.rejects v p = f.mask.getLsbD (crc >>> 26).toNat)) ∧
  (∀ (s : Machine.State) (i : SlotIx) (pl : Place) (e : Bool) (h : List Host.Cell),
     hostWritesFit s.part.straps h = true → s.part.placeOf i = some pl →
     pl.transaction = .control .selectConfiguration → (s.part.slot i).pendingEnd = .none →
     s.part.filter.rejects (s.part.slot i).vendor (s.part.slot i).product = true →
     ∃ t, exec (.transactionCompletion i (.control .good) e h) s = .next t ∧
       (t.part.slot i).state = .rejected ∧ (t.part.slot i).reason = .filtered ∧
       (t.part.slot i).outcomePending = true ∧ t.part.placeOf i = none ∧
       (∃ q ∈ t.part.outcomes.queue, q.outcome.slot = i ∧ q.outcome.verdict = .rejected ∧
         q.outcome.reason = .filtered ∧ q.outcome.job = (s.part.slot i).member) ∧
       (∀ k, k ≠ i → t.part.slot k = s.part.slot k) ∧ Raised s t .slotChanged) ∧
  (∀ (s : Machine.State) (i : SlotIx) (pl : Place) (v : Lamp) (e : Bool) (h : List Host.Cell),
     s.part.placeOf i = some pl → pl.transaction = .lamp v →
     (hostWritesFit s.part.straps h = true →
       (∃ t, exec (.transactionCompletion i (.control .good) e h) s = .next t ∧
         t.part.placeOf i = none ∧ t.part.slot i = { s.part.slot i with lastSent := some v } ∧
         t.part.isReady i .lamp = s.part.isReady i .lamp ∧
         (∀ k, k ≠ i → t.part.slot k = s.part.slot k) ∧ t.port = s.port ∧
         (t.part.lane (laneOf i)).health = 0) ∧
       ∃ t, exec (.transactionCompletion i (.control .refused) e h) s = .next t ∧
         LampFailed s t i v ∧
         (t.part.lane (laneOf i)).health = (s.part.lane (laneOf i)).health) ∧
     (pl.timeout ≤ pl.timer → (s.part.lane (laneOf i)).health < 7 →
       ∃ t, exec (.transactionTimerExpiry i) s = .next t ∧ LampFailed s t i v ∧
         (t.part.lane (laneOf i)).health = (s.part.lane (laneOf i)).health + 1))

/-- EJECT_SLOT: a non-terminal life with nothing in flight fails OPERATOR at once, one with a stick
transaction in flight takes the pending end; nothing changes for a life that holds a pending end already,
nor for an EMPTY or terminal slot. -/
def Obligations.SlotIsEjected : Prop :=
  ∀ (s : Machine.State) (c : CommandCell), s.executes codeEjectSlot c →
    (slotOfNat c.slot.toNat = none →
      ∃ t, exec .ejectSlot s = .next t ∧ RefusedWith s t c .badSlot 0 0) ∧
    (∀ i, slotOfNat c.slot.toNat = some i →
      ∃ t, exec .ejectSlot s = .next t ∧ EndedWith t c .done 0 0 ∧
        ((s.part.slot i).state.live = true → (s.part.slot i).pendingEnd = .none →
          s.part.stickInFlight i = false →
          (t.part.slot i).state = .failed ∧ (t.part.slot i).reason = .operator ∧
            (t.part.slot i).outcomePending = true) ∧
        ((s.part.slot i).state.live = true → (s.part.slot i).pendingEnd = .none →
          s.part.stickInFlight i = true → (s.part.slot i).state ≠ .ready →
          (s.part.slot i).state ≠ .deferred →
          (t.part.slot i).state = (s.part.slot i).state ∧
            (t.part.slot i).pendingEnd = .operator) ∧
        ((s.part.slot i).state.live = false ∨ (s.part.slot i).pendingEnd ≠ .none →
          RefusedWith s t c .done 0 0 ∧ ∀ k, t.part.slot k = s.part.slot k))

/-- ATTACH_NOTICE and ATTACH_RELEASE on an UP lane: an EMPTY slot with its port ON begins a life in
SETTLING, with every per-life item cleared, or waits while its last outcome is not written; a slot that is not EMPTY is detached first, and
a life past SETTLING that ends so leaves a FAILED REMOVED record; a port that is not ON hides the notice;
a waiting attach is released once the outcome is written. -/
def Obligations.AttachBeginsALife : Prop :=
  ∀ (s : Machine.State) (i : SlotIx),
    ((s.part.lane (laneOf i)).state = .up → s.part.portOn i = true →
      (s.part.slot i).state = .empty → (s.part.slot i).outcomePending = false →
      ∃ t, exec (.attachNotice i) s = .next t ∧ LifeBegun s t i ∧ (∀ k, k ≠ i → t.part.slot k = s.part.slot k) ∧
        Raised s t .slotChanged) ∧
    ((s.part.lane (laneOf i)).state = .up → s.part.portOn i = true →
      (s.part.slot i).state = .empty → (s.part.slot i).outcomePending = true →
      ∃ t, exec (.attachNotice i) s = .next t ∧
        t.part.slot i = { s.part.slot i with attachWaiting := true } ∧
        (∀ k, k ≠ i → t.part.slot k = s.part.slot k) ∧ t.mem = s.mem) ∧
    ((s.part.lane (laneOf i)).state = .up → s.part.portOn i = true →
      (s.part.slot i).state ≠ .empty →
      let x := s.part.slot i
      let cut := x.state.live && decide (x.state ≠ .settling)
      ∃ t, exec (.attachNotice i) s = .next t ∧ t.part.placeOf i = none ∧
        (t.part.slot i).member = none ∧
        (x.outcomePending = true ∨ cut = true →
          (t.part.slot i).state = .empty ∧ (t.part.slot i).attachWaiting = true ∧
            (t.part.slot i).outcomePending = true) ∧
        (x.outcomePending = false → cut = false → LifeBegun s t i) ∧
        (cut = true → ∃ q, q ∈ t.part.outcomes.queue ∧ q.outcome.slot = i ∧
          q.outcome.verdict = .failed ∧ q.outcome.reason = .removed ∧ q.outcome.job = x.member) ∧
        Raised s t .slotChanged) ∧
    ((s.part.lane (laneOf i)).state = .up → s.part.portOn i = false →
      ∃ t, exec (.attachNotice i) s = .next t ∧ t.part = s.part ∧ t.mem = s.mem) ∧
    ((s.part.slot i).attachWaiting = true → (s.part.slot i).outcomePending = false →
      ∃ t, exec (.attachRelease i) s = .next t ∧ (t.part.slot i).attachWaiting = false ∧
        ((s.part.lane (laneOf i)).state = .up → LifeBegun s t i) ∧
        ((s.part.lane (laneOf i)).state ≠ .up →
          t.part.slot i = { s.part.slot i with attachWaiting := false }) ∧
        ∀ k, k ≠ i → t.part.slot k = s.part.slot k)

/-- DETACH_NOTICE on an UP lane: the slot is EMPTY, its transaction in flight abandoned (a port power
request too: log entry 16, the model's choice), and a life's membership ends; a life past SETTLING
without a verdict leaves a FAILED REMOVED record; an EMPTY slot gives up a waiting attach. -/
def Obligations.DetachEndsALife : Prop :=
  ∀ (s : Machine.State) (i : SlotIx), (s.part.lane (laneOf i)).state = .up →
    ∃ t, exec (.detachNotice i) s = .next t ∧ (t.part.slot i).state = .empty ∧
      ((s.part.slot i).state ≠ .empty → (t.part.slot i).member = none) ∧
      ((s.part.slot i).state = .empty → (t.part.slot i).attachWaiting = false) ∧
      t.part.placeOf i = none ∧
      ((s.part.slot i).state.live = true → (s.part.slot i).state ≠ .settling →
        (t.part.slot i).reason = .removed ∧ (t.part.slot i).outcomePending = true ∧
        ∃ q, q ∈ t.part.outcomes.queue ∧ q.outcome.slot = i ∧ q.outcome.verdict = .failed ∧
          q.outcome.reason = .removed ∧ q.outcome.job = (s.part.slot i).member) ∧
      ((s.part.slot i).state = .settling → t.part.outcomes = s.part.outcomes)

/-- PENDING_END_APPLY: a pending end with no stick transaction in flight applies: OPERATOR, ABORTED,
IMAGE_CHANGED and LAGGARD fail the life with that reason, DEFER defers it. F of its job follows the
lowest cursor of the active set it may have left, and CHUNK_RELEASED is raised at a rise. -/
def Obligations.PendingEndApplies : Prop :=
  ∀ (s : Machine.State) (i : SlotIx), s.part.stickInFlight i = false →
    (∀ j, (s.part.slot i).member = some j → (s.part.slot i).pendingEnd ≠ .none →
      ∃ t, exec (.pendingEndApply i) s = .next t ∧ ReleaseFollows s t j) ∧
    ((s.part.slot i).pendingEnd = .operator →
      ∃ t, exec (.pendingEndApply i) s = .next t ∧ (t.part.slot i).state = .failed ∧
        (t.part.slot i).reason = .operator ∧ (t.part.slot i).pendingEnd = .none) ∧
    ((s.part.slot i).pendingEnd = .aborted →
      ∃ t, exec (.pendingEndApply i) s = .next t ∧ (t.part.slot i).state = .failed ∧
        (t.part.slot i).reason = .aborted ∧ (t.part.slot i).pendingEnd = .none) ∧
    ((s.part.slot i).pendingEnd = .imageChanged →
      ∃ t, exec (.pendingEndApply i) s = .next t ∧ (t.part.slot i).state = .failed ∧
        (t.part.slot i).reason = .imageChanged ∧ (t.part.slot i).pendingEnd = .none) ∧
    ((s.part.slot i).pendingEnd = .laggard →
      ∃ t, exec (.pendingEndApply i) s = .next t ∧ (t.part.slot i).state = .failed ∧
        (t.part.slot i).reason = .laggard ∧ (t.part.slot i).pendingEnd = .none) ∧
    (∀ j, (s.part.slot i).pendingEnd = .defer → (s.part.slot i).member = some j →
      (s.part.job j).state ≠ .closing → (s.part.job j).state ≠ .aborting →
      ∃ t, exec (.pendingEndApply i) s = .next t ∧ (t.part.slot i).state = .deferred ∧
        (t.part.slot i).writeOffset = 0 ∧
        (t.part.slot i).writeChunk = (s.part.slot i).writeChunk ∧
        (t.part.slot i).pendingEnd = .none)

/-- SETTLE_TIMER_EXPIRY, BACKOFF_TIMER_EXPIRY and BLINK_PHASE_TOGGLE: a settled slot is ENUMERATING with
its first attempt counted and its port reset ready; a backoff that has run 100 ms is over; every desired
indicator is that of the time base's phase, whenever the toggle is taken (log entry 28, the model's
choice). -/
def Obligations.SlotTimersExpire : Prop :=
  ∀ (s : Machine.State) (i : SlotIx),
    (s.part.reports = true → (s.part.slot i).state = .settling →
      s.part.settings.settleTime ≤ (s.part.slot i).settle →
      ∃ t, exec (.settleTimerExpiry i) s = .next t ∧ (t.part.slot i).state = .enumerating ∧
        (t.part.slot i).attempts = (s.part.slot i).attempts + 1 ∧
        { port := portOf i, kind := .portReset } ∈ (t.part.lane (laneOf i)).ready ∧
        (∀ k, k ≠ i → t.part.slot k = s.part.slot k) ∧ (∀ j, t.part.job j = s.part.job j) ∧
        t.port.has .slotChanged) ∧
    (∀ n, s.part.reports = true → (s.part.slot i).backoff = some n → 100 ≤ n →
      ∃ t, exec (.backoffTimerExpiry i) s = .next t ∧
        t.part.slot i = { s.part.slot i with backoff := none } ∧
        (∀ k, k ≠ i → t.part.slot k = s.part.slot k) ∧ (∀ j, t.part.job j = s.part.job j) ∧
        (∀ l, t.part.lane l = s.part.lane l) ∧ t.mem = s.mem ∧ t.port = s.port) ∧
    ∃ t, exec .blinkPhaseToggle s = .next t ∧
      (∀ k, t.part.slot k = { s.part.slot k with
        desired := s.part.desiredLamp (s.part.slot k), pendingLamp := (t.part.slot k).pendingLamp }) ∧
      (∀ j, t.part.job j = s.part.job j) ∧ t.mem = s.mem ∧ t.port = s.port

/-! ### Lanes (chapter 6) -/

/-- The slot number is lane × 16 + port number, and the port number follows from its hub ports. -/
def Obligations.PortsAreNumbered : Prop :=
  ∀ (l : LaneIx) (p : PortIx),
    p.val = 4 * (upperHubPort p - 1) + (lowerHubPort p - 1) ∧ 1 ≤ upperHubPort p ∧
      upperHubPort p ≤ 4 ∧ 1 ≤ lowerHubPort p ∧ lowerHubPort p ≤ 4 ∧
      lowerHubAddress (upperHubPort p) = upperHubPort p + 1 ∧
      (slotOf l p).val = l.val * 16 + p.val ∧ laneOf (slotOf l p) = l ∧ portOf (slotOf l p) = p ∧
      (l.val = 2 → p.val = 5 → (slotOf l p).val = 37 ∧ lowerHubPort p = 2 ∧
        lowerHubAddress (upperHubPort p) = 3 ∧ upperHubPort p = 2 ∧ stickAddress p = 11)

/-- HUB_LOSS: an UP lane is RESETTING with fault HUB_LOST and its places empty, every non-terminal life on it
fails LANE_RESET, and its terminal and EMPTY slots are as before. The eighth expiry in a row of an UP lane
puts it into RESETTING with fault HEALTH, and the slot of a DATA transaction fails LANE_RESET whatever its own
counts hold: both counts have risen, but for a slot that holds a pending end, which keeps its counts and whose
pending end is not applied (log entry 15, the model's choice). -/
def Obligations.LanesAreReset : Prop :=
  (∀ (s : Machine.State) (l : LaneIx) (q : Fin 5), (s.part.lane l).state = .up →
     ∃ t, exec (.hubLoss l q) s = .next t ∧ (t.part.lane l).state = .resetting ∧
       (t.part.lane l).fault = { kind := .hubLost, hubPort := q.val } ∧
       (t.part.lane l).resets = min ((s.part.lane l).resets + 1) 65535 ∧
       (∀ k, (t.part.lane l).places.get k = none) ∧
       (∀ p, (s.part.slot (slotOf l p)).state.live = true →
         (t.part.slot (slotOf l p)).state = .failed ∧
           (t.part.slot (slotOf l p)).reason = .laneReset) ∧
       (∀ p, (s.part.slot (slotOf l p)).state.live = false →
         t.part.slot (slotOf l p) = s.part.slot (slotOf l p)) ∧
       (∀ k, k ≠ l → (t.part.lane k).places = (s.part.lane k).places) ∧ Raised s t .laneEvent) ∧
  (∀ (s : Machine.State) (i : SlotIx) (pl : Place) (r : DataRequest) (tag : Word),
     s.part.placeOf i = some pl → pl.transaction = .data r tag → pl.timeout ≤ pl.timer →
     (s.part.lane (laneOf i)).state = .up → (s.part.lane (laneOf i)).health = 7 →
     (s.part.slot i).state.live = true →
     ∃ t, exec (.transactionTimerExpiry i) s = .next t ∧
       (t.part.lane (laneOf i)).state = .resetting ∧
       (t.part.lane (laneOf i)).fault = { kind := .health, hubPort := 0 } ∧
       (t.part.slot i).state = .failed ∧ (t.part.slot i).reason = .laneReset ∧
       ((s.part.slot i).pendingEnd = .none →
         (t.part.slot i).retries = (s.part.slot i).retries + 1 ∧
           (t.part.slot i).stickErrors = (s.part.slot i).stickErrors + 1) ∧
       ((s.part.slot i).pendingEnd ≠ .none →
         (t.part.slot i).retries = (s.part.slot i).retries ∧
           (t.part.slot i).stickErrors = (s.part.slot i).stickErrors) ∧
       ∀ p, (s.part.slot (slotOf (laneOf i) p)).state.live = true →
         (t.part.slot (slotOf (laneOf i) p)).state = .failed ∧
           (t.part.slot (slotOf (laneOf i) p)).reason = .laneReset)

/-- LANE_GRANT on an UP lane of an enabled engine with its board ON: a CONTROL request takes the empty
place for 500 ms and is no longer ready: one that no hold keeps back, of the lowest subclass that has
such a one, and of those the earliest. With none unheld, a DATA transaction takes it for the data timeout
with the lane's tag, and the pointer moves past its port: one that no hold keeps back, of the highest
level, then the lowest job number, then the lowest progress key, then the first port from the pointer on.
Nothing is written; with nothing to grant nothing changes. -/
def Obligations.LaneGrants : Prop :=
  ∀ (s : Machine.State) (l : LaneIx) (k : Fin 4), s.part.mayGrant l = true →
    (s.part.lane l).emptyPlace = some k →
    (∀ r, (s.part.lane l).controlChoice = some r →
      (∃ t, exec (.laneGrant l) s = .next t ∧
        (t.part.lane l).places.get k = some
          { port := r.port,
            address := if r.kind.subclass = 2 then 6 + r.port.val else upperHubPort r.port + 1,
            transaction := s.part.controlTransaction (slotOf l r.port) r.kind,
            timer := 0, timeout := 500, disowned := false } ∧
        (t.part.lane l).ready = (s.part.lane l).ready.erase r ∧
        (∀ k', k' ≠ k →
          (t.part.lane l).places.get k' = (s.part.lane l).places.get k') ∧
        t.mem = s.mem ∧ t.port = s.port) ∧
      Unheld (s.part.lane l) r ∧
      (∀ x ∈ (s.part.lane l).ready, Unheld (s.part.lane l) x → r.kind.subclass ≤ x.kind.subclass) ∧
      ∃ pre post, (s.part.lane l).ready = pre ++ r :: post ∧
        ∀ x ∈ pre, x.kind.subclass = r.kind.subclass → ¬ Unheld (s.part.lane l) x) ∧
    ((s.part.lane l).controlChoice = none →
      ∀ x ∈ (s.part.lane l).ready, ¬ Unheld (s.part.lane l) x) ∧
    (∀ c, (s.part.lane l).controlChoice = none → s.part.dataChoice l = some c →
      (∃ t, exec (.laneGrant l) s = .next t ∧
        (t.part.lane l).places.get k = some
          { port := portOf c.slot, address := 6 + (portOf c.slot).val,
            transaction := .data c.request (s.part.lane l).tag,
            timer := 0, timeout := s.part.settings.dataTimeout, disowned := false } ∧
        (t.part.lane l).tag = (s.part.lane l).tag + 1 ∧
        (t.part.lane l).pointer = portOf c.slot + 1 ∧
        (∀ k', k' ≠ k →
          (t.part.lane l).places.get k' = (s.part.lane l).places.get k') ∧
        (∀ i, t.part.slot i = s.part.slot i) ∧ t.mem = s.mem ∧ t.port = s.port) ∧
      laneOf c.slot = l ∧ s.part.dataReady c.slot = some (c.job, c.request) ∧
      s.part.placeOf c.slot = none ∧ (s.part.job c.job).state ≠ .pausing ∧
      (s.part.job c.job).state ≠ .paused ∧ (s.part.job c.job).state ≠ .aborting ∧
      ((s.part.board l).sagging = true → c.request.kind ≠ .probeWrite ∧
        c.request.kind ≠ .scrubWrite ∧ c.request.kind ≠ .imageWrite ∧ c.request.kind ≠ .flush) ∧
      c.level = (s.part.job c.job).priority ∧
      c.key = progressKey (s.part.job c.job) (s.part.slot c.slot) ∧
      ∀ i x, laneOf i = l → s.part.candidate i = some x → x.level ≤ c.level ∧
        (x.level = c.level → c.job.val ≤ x.job.val ∧
          (x.job = c.job → c.key ≤ x.key ∧
            (x.key = c.key → (portOf c.slot - (s.part.lane l).pointer).val ≤
              (portOf i - (s.part.lane l).pointer).val)))) ∧
    ((s.part.lane l).controlChoice = none → s.part.dataChoice l = none →
      exec (.laneGrant l) s = .next s)

/-- TRANSACTION_COMPLETION of an image write that ends GOOD: the written count rises by the run, the
retry count returns to 0, the cursor settles past the run, the place is freed and the lane's health run
cleared; the error counts stay. F of its job follows the lowest cursor of the active set, and
CHUNK_RELEASED is raised at a rise. A flush that ends GOOD completes the writing: PASSED, or VERIFYING from
the first chunk with something to read. A verify read that ends GOOD feeds the CRC and moves the cursor;
one that completes a chunk equal to its digest entry takes it to the next chunk, or the slot to PASSED;
where the entry cannot be read, AREA_READ is reported with area code 3 and the chunk is read back again. -/
def Obligations.GoodWriteAdvances : Prop :=
  (∀ (s : Machine.State) (i : SlotIx) (j : JobIx) (pl : Place) (r : DataRequest) (tag : Word)
    (a : DataAnswer) (e : Bool) (h : List Host.Cell), hostWritesFit s.part.straps h = true →
    s.part.placeOf i = some pl → pl.transaction = .data r tag → r.kind = .imageWrite →
    classify a r tag = .good → (s.part.slot i).member = some j →
    (s.part.slot i).state = .writing → (s.part.slot i).pendingEnd = .none →
    ∃ t, exec (.transactionCompletion i (.data a) e h) s = .next t ∧
      (t.part.slot i).state = .writing ∧
      (t.part.slot i).written = (s.part.slot i).written + r.count ∧
      (t.part.slot i).retries = 0 ∧
      (t.part.slot i).stickErrors = (s.part.slot i).stickErrors ∧
      (t.part.slot i).notReady = (s.part.slot i).notReady ∧
      ((t.part.slot i).writeChunk, (t.part.slot i).writeOffset) =
        (s.part.job j).settleWrite (s.part.slot i).writeChunk
          (r.first + r.count - (s.part.job j).chunkStart (s.part.slot i).writeChunk) ∧
      t.part.placeOf i = none ∧ (t.part.lane (laneOf i)).health = 0 ∧ ReleaseFollows s t j) ∧
  (∀ (s : Machine.State) (i : SlotIx) (j : JobIx) (pl : Place) (r : DataRequest) (tag : Word)
    (a : DataAnswer) (e : Bool) (h : List Host.Cell), hostWritesFit s.part.straps h = true →
    s.part.placeOf i = some pl → pl.transaction = .data r tag → classify a r tag = .good →
    (s.part.slot i).member = some j → (s.part.slot i).pendingEnd = .none →
    let x := s.part.slot i
    let c := s.part.job j
    let n := x.verifyChunk
    let stop := r.first + r.count - c.chunkStart n
    let crc := crcBytes x.verifyCrc a.data
    let next := c.settleVerify (n + 1) 0
    (r.kind = .flush → x.state = .writing →
      ∃ t, exec (.transactionCompletion i (.data a) e h) s = .next t ∧ t.part.placeOf i = none ∧
        (t.part.slot i).retries = 0 ∧ (t.part.slot i).member = some j ∧
        (c.record.verify = .none → (t.part.slot i).state = .passed ∧
          (t.part.slot i).outcomePending = true) ∧
        (c.record.verify = .digest → (t.part.slot i).state = .verifying ∧
          ((t.part.slot i).verifyChunk, (t.part.slot i).verifyOffset) = c.settleVerify 0 0 ∧
          (t.part.slot i).verifyCrc = crcInit) ∧ ReleaseFollows s t j) ∧
    (r.kind = .verifyRead → x.state = .verifying → c.moreIn n stop = true →
      ∃ t, exec (.transactionCompletion i (.data a) e h) s = .next t ∧ t.part.placeOf i = none ∧
        (t.part.slot i).state = .verifying ∧ (t.part.slot i).retries = 0 ∧
        (t.part.slot i).verifyChunk = n ∧ (t.part.slot i).verifyOffset = stop ∧
        (t.part.slot i).verifyCrc = crc ∧ (t.part.slot i).verified = x.verified + r.count) ∧
    (r.kind = .verifyRead → x.state = .verifying → c.moreIn n stop = false → e = false →
      (s.mem.apply h).word (c.digestEntry n) = crcFinal crc →
      ∃ t, exec (.transactionCompletion i (.data a) e h) s = .next t ∧ t.part.placeOf i = none ∧
        (t.part.slot i).state = (if c.chunks ≤ next.1 then .passed else .verifying) ∧
        (t.part.slot i).retries = 0 ∧ (t.part.slot i).verified = x.verified + r.count ∧
        ((t.part.slot i).verifyChunk, (t.part.slot i).verifyOffset) = next ∧
        (t.part.slot i).verifyCrc = crcInit ∧
        (c.chunks ≤ next.1 → (t.part.slot i).outcomePending = true)) ∧
    (r.kind = .verifyRead → x.state = .verifying → c.moreIn n stop = false → e = true →
      ∃ t, exec (.transactionCompletion i (.data a) e h) s = .next t ∧ t.part.placeOf i = none ∧
        (t.part.slot i).state = .verifying ∧ (t.part.slot i).retries = 0 ∧
        (t.part.slot i).verifyChunk = n ∧ (t.part.slot i).verifyOffset = 0 ∧
        (t.part.slot i).verifyCrc = crcInit ∧
        (t.part.slot i).verified = x.verified + r.count -
          writtenWithin c.extents (c.chunkStart n) (c.chunkStop n) ∧ AreaFault t 3))

/-- TRANSACTION_COMPLETION of a member's DATA transaction: NOT_READY is counted apart and backed off, and
fails the life above 50; a capacity answer with another block length, or below the job's need, fails it;
a probe read that cannot be read or is not intact fails it FAKE_CAPACITY with the honest estimate; a chunk
whose bytes do not give its digest entry fails it VERIFY_MISMATCH with that chunk as the first bad one. A
GOOD unit-ready query brings the capacity query; a sufficient capacity is kept, and the member begins the
probe at its highest point with the next nonce, or goes on without one; a GOOD probe write goes to the next
lower point, after the lowest to the reads; an intact read to the next higher point, after the highest to
the scrub; the scrub to each point outside the image, after which the member goes on. A description that
names no serial string, or the serial string read, brings the class check: a mass-storage interface of the
block command set, with bulk transport over one endpoint each way, passes, the first such one is kept and the
configuration selected, and a stick without one fails UNSUPPORTED with no further attempt. -/
def Obligations.StickAnswersAreJudged : Prop :=
  (∀ f : Iface, acceptedIface f = true ↔ f.cls = 0x08 ∧ f.commandSet = 0x06 ∧ f.transport = 0x50 ∧
    f.bulkIn = 1 ∧ f.bulkOut = 1) ∧
  (∀ (s : Machine.State) (i : SlotIx) (pl : Place) (e : Bool) (h : List Host.Cell),
    hostWritesFit s.part.straps h = true → s.part.placeOf i = some pl →
    (s.part.slot i).pendingEnd = .none →
    (∀ vendor product ifaces, pl.transaction = .control .readDescription →
      ∃ t, exec (.transactionCompletion i (.control (.description vendor product 0 ifaces)) e h) s
          = .next t ∧
        (t.part.slot i).vendor = vendor ∧ (t.part.slot i).product = product ∧
        ClassChecked s t i ifaces) ∧
    (∀ chars, pl.transaction = .control .readSerial →
      ∃ t, exec (.transactionCompletion i (.control (.serial chars)) e h) s = .next t ∧
        (t.part.slot i).vendor = (s.part.slot i).vendor ∧
        (t.part.slot i).product = (s.part.slot i).product ∧
        ClassChecked s t i (s.part.slot i).ifaces)) ∧
  ∀ (s : Machine.State) (i : SlotIx) (j : JobIx) (pl : Place) (r : DataRequest) (tag : Word)
    (a : DataAnswer) (e : Bool) (h : List Host.Cell), hostWritesFit s.part.straps h = true →
    s.part.placeOf i = some pl → pl.transaction = .data r tag →
    (s.part.slot i).member = some j → (s.part.slot i).pendingEnd = .none →
    let x := s.part.slot i
    let c := s.part.job j
    let stop := r.first + r.count - c.chunkStart x.verifyChunk
    (classify a r tag = .notReady → x.notReady < 50 → x.state ≠ .ready → x.state ≠ .deferred →
      ∃ t, exec (.transactionCompletion i (.data a) e h) s = .next t ∧
        (t.part.slot i).state = x.state ∧ (t.part.slot i).notReady = x.notReady + 1 ∧
        (t.part.slot i).backoff = some 0 ∧ (t.part.slot i).retries = x.retries ∧
        (t.part.slot i).stickErrors = x.stickErrors ∧ t.part.placeOf i = none) ∧
    (classify a r tag = .notReady → 50 ≤ x.notReady →
      ∃ t, exec (.transactionCompletion i (.data a) e h) s = .next t ∧
        (t.part.slot i).state = .failed ∧ (t.part.slot i).reason = .notReady) ∧
    (classify a r tag = .good → r.kind = .capacity → a.blockLength ≠ 512 →
      ∃ t, exec (.transactionCompletion i (.data a) e h) s = .next t ∧
        (t.part.slot i).state = .failed ∧ (t.part.slot i).reason = .blockSize) ∧
    (classify a r tag = .good → r.kind = .capacity → a.blockLength = 512 →
      a.lastBlock.toNat + 1 < max c.span c.record.floor →
      ∃ t, exec (.transactionCompletion i (.data a) e h) s = .next t ∧
        (t.part.slot i).state = .failed ∧ (t.part.slot i).reason = .tooSmall) ∧
    (classify a r tag = .good → r.kind = .unitReady → x.state = .sizing →
      ∃ t, exec (.transactionCompletion i (.data a) e h) s = .next t ∧
        t.part.slot i = { x with retries := 0, capacityNext := true } ∧ t.part.placeOf i = none ∧
        t.part.nextRequest j (t.part.slot i) = some { kind := .capacity, first := 0, count := 0 }) ∧
    (classify a r tag = .good → r.kind = .capacity → x.state = .sizing → a.blockLength = 512 →
      max c.span c.record.floor ≤ a.lastBlock.toNat + 1 →
      let points := probePoints c.record.probe a.lastBlock.toNat
      ∃ t, exec (.transactionCompletion i (.data a) e h) s = .next t ∧ t.part.placeOf i = none ∧
        (t.part.slot i).retries = 0 ∧
        (t.part.slot i).capacity = some { lastBlock := a.lastBlock, blockLength := a.blockLength } ∧
        (c.record.probe = .off → t.part.probeSequence = s.part.probeSequence ∧ BecameReady s t i j) ∧
        (c.record.probe ≠ .off → (t.part.slot i).state = .probing ∧
          (t.part.slot i).nonce = s.part.probeSequence ∧
          t.part.probeSequence = s.part.probeSequence + 1 ∧
          (t.part.slot i).probe = some { count := points.length, phase := .write,
                                         index := points.length - 1, intact := 0 })) ∧
    (∀ q, classify a r tag = .good → r.kind = .probeWrite → x.state = .probing → x.probe = some q →
      ∃ t, exec (.transactionCompletion i (.data a) e h) s = .next t ∧ t.part.placeOf i = none ∧
        t.part.slot i = { x with
          retries := 0,
          probe := some (if q.index = 0 then { q with phase := .read }
            else { q with index := q.index - 1 }) }) ∧
    (∀ q, classify a r tag = .good → r.kind = .probeRead → x.state = .probing → x.probe = some q →
      signatureIntact r.first i x.nonce a.data = true →
      let q' : ProbePosition := { q with intact := q.intact + 1 }
      ∃ t, exec (.transactionCompletion i (.data a) e h) s = .next t ∧ t.part.placeOf i = none ∧
        (t.part.slot i).retries = 0 ∧
        (q.index + 1 < q.count → (t.part.slot i).state = .probing ∧
          (t.part.slot i).probe = some { q' with index := q.index + 1 }) ∧
        (q.count ≤ q.index + 1 → ScrubGoesOn s t i j q' 0)) ∧
    (∀ q, classify a r tag = .good → r.kind = .scrubWrite → x.state = .probing → x.probe = some q →
      ∃ t, exec (.transactionCompletion i (.data a) e h) s = .next t ∧ t.part.placeOf i = none ∧
        (t.part.slot i).retries = 0 ∧ ScrubGoesOn s t i j q (q.index + 1)) ∧
    (∀ q, classify a r tag = .medium ∨ classify a r tag = .short ∨ classify a r tag = .good ∧
        signatureIntact r.first i x.nonce a.data = false → r.kind = .probeRead → x.probe = some q →
      ∃ t, exec (.transactionCompletion i (.data a) e h) s = .next t ∧
        (t.part.slot i).state = .failed ∧ (t.part.slot i).reason = .fakeCapacity ∧
        (t.part.slot i).honest = some (honestEstimate (s.part.pointsOf j x) q.intact)) ∧
    (classify a r tag = .good → r.kind = .verifyRead → e = false →
      c.moreIn x.verifyChunk stop = false →
      (s.mem.apply h).word (c.digestEntry x.verifyChunk) ≠
        crcFinal (crcBytes x.verifyCrc a.data) →
      ∃ t, exec (.transactionCompletion i (.data a) e h) s = .next t ∧
        (t.part.slot i).state = .failed ∧ (t.part.slot i).reason = .verifyMismatch ∧
        (t.part.slot i).firstBad = some x.verifyChunk)

/-- TRANSACTION_COMPLETION with WRITE_PROTECTED or ILLEGAL (R113): the life fails WRITE_PROTECT, or
UNSUPPORTED, and neither count changes; an ILLEGAL flush counts as GOOD (R98), which sets the retry count
to 0 (log entry 38, the model's choice). -/
def Obligations.ProtectedAndIllegalResults : Prop :=
  ∀ (s : Machine.State) (i : SlotIx) (j : JobIx) (pl : Place) (r : DataRequest) (tag : Word)
    (a : DataAnswer) (e : Bool) (h : List Host.Cell), hostWritesFit s.part.straps h = true →
    s.part.placeOf i = some pl → pl.transaction = .data r tag →
    (s.part.slot i).member = some j → (s.part.slot i).pendingEnd = .none →
    (classify a r tag = .writeProtected →
      ∃ t, exec (.transactionCompletion i (.data a) e h) s = .next t ∧
        (t.part.slot i).state = .failed ∧ (t.part.slot i).reason = .writeProtect ∧
        (t.part.slot i).retries = (s.part.slot i).retries ∧
        (t.part.slot i).stickErrors = (s.part.slot i).stickErrors) ∧
    (classify a r tag = .illegal → r.kind ≠ .flush →
      ∃ t, exec (.transactionCompletion i (.data a) e h) s = .next t ∧
        (t.part.slot i).state = .failed ∧ (t.part.slot i).reason = .unsupported ∧
        (t.part.slot i).retries = (s.part.slot i).retries ∧
        (t.part.slot i).stickErrors = (s.part.slot i).stickErrors) ∧
    (classify a r tag = .illegal → r.kind = .flush →
      ∃ t, exec (.transactionCompletion i (.data a) e h) s = .next t ∧
        (t.part.slot i).state = (match (s.part.job j).record.verify with
          | .none => .passed
          | .digest => .verifying) ∧
        (t.part.slot i).retries = 0 ∧
        (t.part.slot i).stickErrors = (s.part.slot i).stickErrors)

/-- TRANSACTION_COMPLETION of the last enumeration step with GOOD, the filter accepting (R66): the slot is
admitted to the job its map entry names, if that job admits, and enters SIZING as its member; otherwise
it enters IDLE as no member. -/
def Obligations.AdmissionFollowsTheMap : Prop :=
  ∀ (s : Machine.State) (i : SlotIx) (pl : Place) (e : Bool) (h : List Host.Cell),
    hostWritesFit s.part.straps h = true → s.part.placeOf i = some pl →
    pl.transaction = .control .selectConfiguration → (s.part.slot i).pendingEnd = .none →
    (s.part.slot i).member = none →
    s.part.filter.rejects (s.part.slot i).vendor (s.part.slot i).product = false →
    ∃ t, exec (.transactionCompletion i (.control .good) e h) s = .next t ∧
      (∀ j, s.part.mapOf i = some j → ((s.part.job j).state = .standby ∨
          (s.part.job j).state = .running ∨ (s.part.job j).state = .pausing ∨
          (s.part.job j).state = .paused) →
        (t.part.slot i).state = .sizing ∧ (t.part.slot i).member = some j ∧
        t.part.memberCount j .sizing = s.part.memberCount j .sizing + 1) ∧
      ((s.part.mapOf i = none ∨ ∃ j, s.part.mapOf i = some j ∧
          ((s.part.job j).state = .vacant ∨ (s.part.job j).state = .closing ∨
            (s.part.job j).state = .aborting ∨ (s.part.job j).state = .ended)) →
        (t.part.slot i).state = .idle ∧ (t.part.slot i).member = none) ∧
      ∀ k, k ≠ i → t.part.slot k = s.part.slot k

/-- TRANSACTION_COMPLETION of a serial string read (R62): at most 32 characters are kept, those outside
0x20 to 0x7E as 0x3F, and the truncated flag says whether there were more; the outcome record carries
the string, and no filter's decision changes with it; a description that names no string leaves it
empty. -/
def Obligations.SerialStringIsKept : Prop :=
  ∀ (s : Machine.State) (i : SlotIx) (pl : Place) (e : Bool) (h : List Host.Cell),
    hostWritesFit s.part.straps h = true → s.part.placeOf i = some pl →
    (s.part.slot i).pendingEnd = .none →
    (∀ chars : List Half, pl.transaction = .control .readSerial →
      ∃ t, exec (.transactionCompletion i (.control (.serial chars)) e h) s = .next t ∧
        (t.part.slot i).serial.length = min 32 chars.length ∧
        (∀ n c, n < 32 → chars[n]? = some c → (t.part.slot i).serial[n]? =
          some (if 0x20 ≤ c.toNat ∧ c.toNat ≤ 0x7E then c.setWidth 8 else 0x3F)) ∧
        ((t.part.slot i).truncated = true ↔ 32 < chars.length) ∧
        (t.part.capture i .passed).serial = (t.part.slot i).serial ∧
        (t.part.capture i .passed).truncated = (t.part.slot i).truncated ∧
        ∀ f : AdmissionFilter, f.rejects (t.part.slot i).vendor (t.part.slot i).product =
          f.rejects (s.part.slot i).vendor (s.part.slot i).product) ∧
    (∀ vendor product ifaces, pl.transaction = .control .readDescription →
      ∃ t, exec (.transactionCompletion i (.control (.description vendor product 0 ifaces)) e h) s
          = .next t ∧
        (t.part.slot i).serial = [] ∧ (t.part.slot i).truncated = false ∧
        (t.part.slot i).vendor = vendor ∧ (t.part.slot i).product = product)

/-- TRANSACTION_TIMER_EXPIRY, LATE_ANSWER and COPY_DATA_READ_ERROR end a DATA transaction as a counted
failure: below its limits both counts rise, the place is freed and a reset recovery is ready; above the
retry limit the life fails UNRESPONSIVE, else above the error budget ERROR_BUDGET. An expiry also counts
in the health run; a COPY read error is reported with area code 2; a late answer that ends nothing is
discarded. A MEDIUM or SHORT completion is counted too, but below the limits it is made again without a
recovery, and above the retry limit it fails WRITE_ERROR or READ_ERROR by its kind. A reset recovery that
ends otherwise than GOOD fails the life UNRESPONSIVE without being counted. An enumeration request that is
refused or expires fails its attempt: a new one begins with its port reset, and after the third the life
fails ENUM_FAILED; no count but that of the attempts changes. -/
def Obligations.BrokenTransactionsAreRecovered : Prop :=
  (∀ (s : Machine.State) (i : SlotIx) (j : JobIx) (pl : Place) (r : DataRequest) (tag : Word),
    s.part.placeOf i = some pl → pl.transaction = .data r tag →
    (s.part.slot i).member = some j → (s.part.slot i).pendingEnd = .none →
    (s.part.slot i).state ≠ .ready → (s.part.slot i).state ≠ .deferred →
    (s.part.slot i).retries < s.part.settings.retryLimit →
    (s.part.slot i).stickErrors < s.part.settings.errorBudget →
    (pl.timeout ≤ pl.timer → (s.part.lane (laneOf i)).health < 7 →
      ∃ t, exec (.transactionTimerExpiry i) s = .next t ∧ CountedFailure s t i ∧
        (t.part.lane (laneOf i)).health = (s.part.lane (laneOf i)).health + 1) ∧
    (∀ x, x ≠ tag →
      ∃ t, exec (.lateAnswer i true x true) s = .next t ∧ CountedFailure s t i) ∧
    (∀ b y st, ¬(b = true ∧ st = true ∧ y ≠ tag) → exec (.lateAnswer i b y st) s = .next s) ∧
    (s.part.copyWrite i = some r →
      ∃ t, exec (.copyDataReadError i) s = .next t ∧ CountedFailure s t i ∧ AreaFault t 2) ∧
    (∀ a e h, hostWritesFit s.part.straps h = true →
      classify a r tag = .medium ∨ classify a r tag = .short → r.kind ≠ .probeRead →
      ∃ t, exec (.transactionCompletion i (.data a) e h) s = .next t ∧
        (t.part.slot i).state = (s.part.slot i).state ∧
        (t.part.slot i).retries = (s.part.slot i).retries + 1 ∧
        (t.part.slot i).stickErrors = (s.part.slot i).stickErrors + 1 ∧
        t.part.placeOf i = none ∧
        t.part.isReady i .resetRecovery = s.part.isReady i .resetRecovery)) ∧
  (∀ (s : Machine.State) (i : SlotIx) (j : JobIx) (pl : Place) (r : DataRequest) (tag : Word)
    (reason : Reason),
    s.part.placeOf i = some pl → pl.transaction = .data r tag →
    (s.part.slot i).member = some j → (s.part.slot i).pendingEnd = .none →
    (s.part.settings.retryLimit ≤ (s.part.slot i).retries ∧ reason = .unresponsive ∨
      (s.part.slot i).retries < s.part.settings.retryLimit ∧
        s.part.settings.errorBudget ≤ (s.part.slot i).stickErrors ∧ reason = .errorBudget) →
    (pl.timeout ≤ pl.timer → (s.part.lane (laneOf i)).health < 7 →
      ∃ t, exec (.transactionTimerExpiry i) s = .next t ∧ FailedAtLimit s t i reason) ∧
    (∀ x, x ≠ tag →
      ∃ t, exec (.lateAnswer i true x true) s = .next t ∧ FailedAtLimit s t i reason) ∧
    (s.part.copyWrite i = some r →
      ∃ t, exec (.copyDataReadError i) s = .next t ∧ FailedAtLimit s t i reason ∧ AreaFault t 2) ∧
    (∀ a e h, hostWritesFit s.part.straps h = true →
      classify a r tag = .stall ∨ classify a r tag = .phase →
      ∃ t, exec (.transactionCompletion i (.data a) e h) s = .next t ∧
        FailedAtLimit s t i reason) ∧
    (∀ a e h, hostWritesFit s.part.straps h = true →
      classify a r tag = .medium ∨ classify a r tag = .short → r.kind ≠ .probeRead →
      ∃ t, exec (.transactionCompletion i (.data a) e h) s = .next t ∧
        FailedAtLimit s t i (if reason = .errorBudget then .errorBudget
          else match r.kind with
            | .probeWrite | .scrubWrite | .imageWrite | .flush => .writeError
            | _ => .readError))) ∧
  (∀ (s : Machine.State) (i : SlotIx) (pl : Place) (e : Bool) (h : List Host.Cell),
    s.part.placeOf i = some pl → pl.transaction = .control .resetRecovery →
    (s.part.slot i).pendingEnd = .none →
    (pl.timeout ≤ pl.timer → (s.part.lane (laneOf i)).health < 7 →
      ∃ t, exec (.transactionTimerExpiry i) s = .next t ∧ (t.part.slot i).state = .failed ∧
        (t.part.slot i).reason = .unresponsive ∧
        (t.part.slot i).retries = (s.part.slot i).retries ∧
        (t.part.slot i).stickErrors = (s.part.slot i).stickErrors) ∧
    (∀ a, a = .refused ∨
        (∃ x y z, a = .recovery x y z ∧ ¬(x = true ∧ y = true ∧ z = true)) →
      hostWritesFit s.part.straps h = true →
      ∃ t, exec (.transactionCompletion i (.control a) e h) s = .next t ∧
        (t.part.slot i).state = .failed ∧ (t.part.slot i).reason = .unresponsive ∧
        (t.part.slot i).retries = (s.part.slot i).retries ∧
        (t.part.slot i).stickErrors = (s.part.slot i).stickErrors) ∧
    (hostWritesFit s.part.straps h = true →
      ∃ t, exec (.transactionCompletion i (.control (.recovery true true true)) e h) s = .next t ∧
        t.part.slot i = s.part.slot i ∧ t.part.placeOf i = none ∧
        (t.part.lane (laneOf i)).health = 0)) ∧
  (∀ (s : Machine.State) (i : SlotIx) (pl : Place) (k : ControlKind) (e : Bool) (h : List Host.Cell),
    s.part.placeOf i = some pl → pl.transaction = .control k → k = .portReset ∨ k = .setAddress ∨
      k = .readDescription ∨ k = .readSerial ∨ k = .selectConfiguration →
    (s.part.slot i).pendingEnd = .none →
    (pl.timeout ≤ pl.timer → (s.part.lane (laneOf i)).health < 7 →
      ∃ t, exec (.transactionTimerExpiry i) s = .next t ∧ AttemptFailed s t i) ∧
    (hostWritesFit s.part.straps h = true →
      ∃ t, exec (.transactionCompletion i (.control .refused) e h) s = .next t ∧
        AttemptFailed s t i))

/-- RETRY_WAIT_EXPIRY and BRING_UP_START: a retry wait of 5,000 ms clears; a DOWN lane with its board ON,
its engine enabled and no retry wait begins its bring-up at the root port. BRING_UP_EXCHANGE_END and
REBUILD_EXCHANGE_END: after an exchange that ended with success the next begins with its own request, or
the lane enters UP after the last, with its power requests, overcurrents and port status scan (the
requests that waited: log entry 12; the first power group taken before the held overcurrents lock their
ports, the scan last: log entry 17; the model's choices); any other end takes the lane to DOWN with its
fault recorded and its retry wait set, and a failed rebuild turns every ON port of the board OFF. The
requests name the hubs' bus addresses, and step 5 sets each port to the power its record holds. -/
def Obligations.BringUpLeadsUpOrDown : Prop :=
  (∀ (s : Machine.State) (l : LaneIx),
     (∀ n, s.part.reports = true → (s.part.lane l).retryWait = some n → 5000 ≤ n →
       ∃ t, exec (.retryWaitExpiry l) s = .next t ∧
         t.part.lane l = { s.part.lane l with retryWait := none } ∧
         (∀ k, k ≠ l → t.part.lane k = s.part.lane k) ∧ t.mem = s.mem ∧ t.port = s.port) ∧
     ((s.part.lane l).state = .down → s.part.reports = true → (s.part.board l).state = .on →
       (s.part.lane l).retryWait = none →
       ∃ t, exec (.bringUpStart l) s = .next t ∧
         t.part.lane l = { s.part.lane l with
           state := .bringingUp,
           tree := some { step := .rootPort, request := .resetRoot, timer := 0, overcurrent := 0 } } ∧
         (∀ k, k ≠ l → t.part.lane k = s.part.lane k) ∧ (∀ i, t.part.slot i = s.part.slot i) ∧
         t.port.has .laneEvent)) ∧
  (∀ (s : Machine.State) (l : LaneIx) (x : Tree) (e : ExchangeEnd) (con : BitVec 16) (g : Bool),
     (s.part.lane l).tree = some x → x.success e = some g →
     ((s.part.lane l).state = .bringingUp →
       ∃ t, exec (.bringUpExchangeEnd l e con) s = .next t ∧
         (g = true → ∀ n, x.step.succ = some n →
           (t.part.lane l).state = .bringingUp ∧ (t.part.lane l).tree = some
             { step := n, request := n.request (s.part.board l), timer := 0,
               overcurrent := x.noteOvercurrent e } ∧ t.mem = s.mem) ∧
         (g = true → x.step.succ = none → EnteredUp s t l (x.noteOvercurrent e) con) ∧
         (g = false → (t.part.lane l).state = .down ∧ (t.part.lane l).fault = x.step.fault ∧
           (t.part.lane l).retryWait = some 0 ∧ (∀ b, t.part.board b = { s.part.board b with
             staged := (t.part.board b).staged, waitingPower := (t.part.board b).waitingPower }) ∧
           Raised s t .laneEvent)) ∧
     ((s.part.lane l).state = .resetting →
       ∃ t, exec (.rebuildExchangeEnd l e con) s = .next t ∧
         (g = true → ∀ n, x.step.succ = some n →
           (t.part.lane l).state = .resetting ∧ (t.part.lane l).tree = some
             { step := n, request := n.request (s.part.board l), timer := 0,
               overcurrent := x.noteOvercurrent e } ∧ t.mem = s.mem) ∧
         (g = true → x.step.succ = none → EnteredUp s t l (x.noteOvercurrent e) con) ∧
         (g = false → (t.part.lane l).state = .down ∧ (t.part.lane l).fault = x.step.fault ∧
           (t.part.lane l).retryWait = some 0 ∧ Raised s t .laneEvent ∧
           ∀ p, (t.part.board l).ports.get p = if (s.part.board l).ports.get p = .on then .off
             else (s.part.board l).ports.get p))) ∧
  (∀ (b : Board) (u : Fin 4) (p : PortIx),
     TreeStep.request (.upperHub .address) b = .giveAddress 1 ∧
     TreeStep.request (.lowerHub u .power) b = .powerHubPort (u.val + 1) ∧
     TreeStep.request (.lowerHub u .reset) b = .resetHubPort (u.val + 1) ∧
     TreeStep.request (.lowerHub u .address) b = .giveAddress (u.val + 2) ∧
     TreeStep.request (.portPower p) b = .setPower (upperHubPort p + 1) (lowerHubPort p)
       (match b.ports.get p with
         | .on => true
         | .off => false
         | .locked => false))

/-! ### Boards (chapter 7) -/

/-- OVERCURRENT_NOTICE on an UP lane: the port is LOCKED and its power off request ready, its transaction in
flight is abandoned, but for a port power on request, whose end is no longer acted on, a non-terminal life
fails OVERCURRENT, and RAIL_EVENT is raised; a notice for a port already LOCKED changes nothing. A port power
on request that ends otherwise than GOOD, by completion or expiry, locks its port so too; nothing is done at
the end of one that ends GOOD, of one that an overcurrent has met in flight, and of a power off request. -/
def Obligations.OvercurrentLocksThePort : Prop :=
  (∀ (s : Machine.State) (i : SlotIx), (s.part.lane (laneOf i)).state = .up →
    (s.part.portLocked i = false →
      ∃ t, exec (.overcurrentNotice i) s = .next t ∧ PortLockedOut s t i ∧
        ∀ k, (t.part.lane (laneOf i)).places.get k =
          ((s.part.lane (laneOf i)).places.get k).bind (fun pl =>
            if pl.port ≠ portOf i then some pl
            else if pl.transaction = .control .portPowerOn then some { pl with disowned := true }
            else none)) ∧
    (s.part.portLocked i = true →
      ∃ t, exec (.overcurrentNotice i) s = .next t ∧ t.part = s.part ∧ t.mem = s.mem)) ∧
  (∀ (s : Machine.State) (i : SlotIx) (pl : Place) (e : Bool) (h : List Host.Cell),
    s.part.placeOf i = some pl →
    let x := s.part.lane (laneOf i)
    let late := decide (pl.timeout ≤ pl.timer) && decide (x.health < 7)
    (pl.transaction = .control .portPowerOn → pl.disowned = false →
      (late = true → ∃ t, exec (.transactionTimerExpiry i) s = .next t ∧ PortLockedOut s t i ∧
        t.part.placeOf i = none ∧ (t.part.lane (laneOf i)).health = x.health + 1) ∧
      (hostWritesFit s.part.straps h = true →
        ∃ t, exec (.transactionCompletion i (.control .refused) e h) s = .next t ∧
          PortLockedOut s t i ∧ t.part.placeOf i = none ∧
          (t.part.lane (laneOf i)).health = x.health)) ∧
    (pl.transaction = .control .portPowerOn ∧ pl.disowned = true ∨
        pl.transaction = .control .portPowerOff →
      (late = true → ∃ t, exec (.transactionTimerExpiry i) s = .next t ∧ EndIgnored s t i ∧
        t.mem = s.mem ∧ (t.part.lane (laneOf i)).health = x.health + 1) ∧
      (hostWritesFit s.part.straps h = true →
        ∃ t, exec (.transactionCompletion i (.control .refused) e h) s = .next t ∧
          EndIgnored s t i ∧ t.mem = s.mem.apply h ∧
          (t.part.lane (laneOf i)).health = x.health)) ∧
    (pl.transaction = .control .portPowerOn ∨ pl.transaction = .control .portPowerOff →
      hostWritesFit s.part.straps h = true →
      ∃ t, exec (.transactionCompletion i (.control .good) e h) s = .next t ∧ EndIgnored s t i ∧
        t.mem = s.mem.apply h ∧ (t.part.lane (laneOf i)).health = 0))

/-- RESTORE_BOARD: a LOST board enters RAMPING, switched on and due at once; the checks refuse in their
order. -/
def Obligations.BoardIsRestored : Prop :=
  ∀ (s : Machine.State) (c : CommandCell), s.executes codeRestoreBoard c →
    (15 < c.param0.toNat →
      ∃ t, exec .restoreBoard s = .next t ∧ RefusedWith s t c .badSlot 0 0) ∧
    (∀ b : LaneIx, c.param0.toNat = b.val → (s.part.board b).state = .unfitted →
      ∃ t, exec .restoreBoard s = .next t ∧ RefusedWith s t c .notFitted 0 0) ∧
    (∀ b : LaneIx, c.param0.toNat = b.val → (s.part.board b).state = .off ∨
        (s.part.board b).state = .ramping ∨ (s.part.board b).state = .on →
      ∃ t, exec .restoreBoard s = .next t ∧ RefusedWith s t c .wrongState 0 0) ∧
    (∀ b : LaneIx, c.param0.toNat = b.val → (s.part.board b).state = .lost →
      ∃ t, exec .restoreBoard s = .next t ∧ (t.part.board b).state = .ramping ∧
        (t.part.board b).switchOn = true ∧ (t.part.board b).sagRun = 0 ∧
        (t.part.board b).deadRun = 0 ∧ (t.part.board b).sagging = false ∧
        (t.part.board b).mode = .fast ∧ (t.part.board b).due = some s.part.time ∧
        (∀ k, k ≠ b → t.part.board k = s.part.board k) ∧
        (∀ i, t.part.slot i = s.part.slot i) ∧ EndedWith t c .done 0 0 ∧ Raised s t .railEvent)

/-- PORT_RESTORE: a LOCKED port of a steady ON board is ON again, a terminal slot is emptied, and the
power request is ready on an UP lane (handed back on another, and kept for the entry into UP in a
bring-up or rebuild: log entry 12, the model's choice); the checks refuse in their order. -/
def Obligations.PortIsRestored : Prop :=
  ∀ (s : Machine.State) (c : CommandCell), s.executes codePortRestore c →
    (slotOfNat c.slot.toNat = none →
      ∃ t, exec .portRestore s = .next t ∧ RefusedWith s t c .badSlot 0 0) ∧
    (∀ i, slotOfNat c.slot.toNat = some i → (s.part.board (laneOf i)).state = .unfitted →
      ∃ t, exec .portRestore s = .next t ∧ RefusedWith s t c .notFitted 0 0) ∧
    (∀ i, slotOfNat c.slot.toNat = some i → (s.part.board (laneOf i)).state ≠ .unfitted →
      (s.part.board (laneOf i)).state ≠ .on ∨ (s.part.board (laneOf i)).sagging = true →
      ∃ t, exec .portRestore s = .next t ∧ RefusedWith s t c .railLow 0 0) ∧
    (∀ i, slotOfNat c.slot.toNat = some i → (s.part.board (laneOf i)).state = .on →
      (s.part.board (laneOf i)).sagging = false → s.part.portLocked i = false →
      ∃ t, exec .portRestore s = .next t ∧ RefusedWith s t c .wrongState 0 0) ∧
    (∀ i, slotOfNat c.slot.toNat = some i → (s.part.board (laneOf i)).state = .on →
      (s.part.board (laneOf i)).sagging = false → s.part.portLocked i = true →
      ∃ t, exec .portRestore s = .next t ∧ t.part.portOn i = true ∧
        ((s.part.lane (laneOf i)).state = .up →
          { port := portOf i, kind := .portPowerOn } ∈ (t.part.lane (laneOf i)).ready) ∧
        ((s.part.lane (laneOf i)).state ≠ .up →
          t.part.isReady i .portPowerOn = s.part.isReady i .portPowerOn) ∧
        (t.part.board (laneOf i)).waitingPower.getLsbD (portOf i).val =
          ((s.part.board (laneOf i)).waitingPower.getLsbD (portOf i).val ||
            decide ((s.part.lane (laneOf i)).state = .bringingUp) ||
            decide ((s.part.lane (laneOf i)).state = .resetting)) ∧
        (t.part.slot i).state = (if (s.part.slot i).state.terminal then .empty
          else (s.part.slot i).state) ∧
        ((s.part.slot i).state.terminal = true → (t.part.slot i).member = none) ∧
        (∀ k, k ≠ i → t.part.slot k = s.part.slot k) ∧
        (∀ k, k ≠ i → t.part.portOn k = s.part.portOn k) ∧ EndedWith t c .done 0 0 ∧
        Raised s t .railEvent)

/-- CONVERSION_START: an idle converter takes a due board, records it as the last converted, and its due
time moves on by its mode's period; nothing is written. CONVERSION_DONE: the level is taken and the run
counts updated; the fourth dead sample loses a RAMPING or ON board, with its ports OFF, its lane DOWN and
its lives failed RAIL_LOST; a sample at R takes a RAMPING board to ON; the fourth sample at or below S
sets the sag flag and one at R clears it. -/
def Obligations.BoardsAreSampled : Prop :=
  (∀ (s : Machine.State) (b : LaneIx), s.part.converter.busy = none →
     s.part.nextBoard = some b →
     ∃ t, exec .conversionStart s = .next t ∧
       t.part.converter = { busy := some (b, 0), last := b } ∧ s.part.boardDue b = true ∧
       t.part.board b = { s.part.board b with
         due := some (s.part.time + match (s.part.board b).mode with
           | .none => 0
           | .fast => 16
           | .quiet => 1024) } ∧
       (∀ k, k ≠ b → t.part.board k = s.part.board k) ∧ t.mem = s.mem ∧ t.port = s.port) ∧
  (∀ (s : Machine.State) (b : LaneIx) (n : Nat) (v : Fin 16),
     s.part.converter.busy = some (b, n) → 1 ≤ n →
     let x := s.part.board b
     let sag := s.part.settings.sagLevel
     let dead := if v.val = 0 then min (x.deadRun + 1) 4 else 0
     ∃ t, exec (.conversionDone v) s = .next t ∧ t.part.converter.busy = none ∧
       (t.part.board b).level = v.val ∧
       (∀ k, k ≠ b → (t.part.board k).supply = (s.part.board k).supply) ∧
       (x.state = .ramping ∨ x.state = .on → dead = 4 →
         (t.part.board b).state = .lost ∧ (t.part.board b).switchOn = false ∧
         (t.part.board b).sagging = false ∧ (t.part.board b).due = none ∧
         (t.part.board b).deadRun = 0 ∧ (∀ p, (t.part.board b).ports.get p = .off) ∧
         (t.part.lane b).state = .down ∧ (t.part.lane b).retryWait = none ∧
         (∀ p, (s.part.slot (slotOf b p)).state.live = true →
           (t.part.slot (slotOf b p)).state = .failed ∧
             (t.part.slot (slotOf b p)).reason = .railLost) ∧ Raised s t .railEvent) ∧
       (x.state = .ramping → dead ≠ 4 → sag + 2 ≤ v.val →
         (t.part.board b).state = .on ∧ (t.part.board b).sagging = false ∧
         (t.part.board b).sagRun = 0 ∧ (t.part.board b).deadRun = 0 ∧ Raised s t .railEvent) ∧
       (x.state = .ramping → dead ≠ 4 → v.val < sag + 2 →
         (t.part.board b).state = .ramping ∧ (t.part.board b).deadRun = dead) ∧
       (x.state = .on → dead ≠ 4 →
         (t.part.board b).state = .on ∧ (t.part.board b).deadRun = dead ∧
         (t.part.board b).sagRun = (if v.val ≤ sag then min (x.sagRun + 1) 4 else 0) ∧
         (t.part.board b).sagging = (if x.sagging then decide (v.val < sag + 2)
           else decide (v.val ≤ sag ∧ 3 ≤ x.sagRun)) ∧
         ((t.part.board b).sagging ≠ x.sagging → Raised s t .railEvent)))

/-- POWER_GROUP_INTERVAL_EXPIRY: once the interval that the running group was taken with has passed, the
lowest-numbered OFF ports, as many as the group size, become ON and their power requests ready, for the
interval now set; the power-up is over when none is left OFF. -/
def Obligations.PowerGroupsAreTaken : Prop :=
  ∀ (s : Machine.State) (b : LaneIx) (n d : Nat), s.part.reports = true →
    (s.part.board b).sagging = false → (s.part.board b).staged = .running n d → d ≤ n →
    let ps := (s.part.board b).offPorts.take s.part.settings.groupSize
    ∃ t, exec (.powerGroupIntervalExpiry b) s = .next t ∧
      (∀ p, (t.part.board b).ports.get p = if p ∈ ps then .on else (s.part.board b).ports.get p) ∧
      (t.part.lane b).ready = (s.part.lane b).ready ++
        ps.map (fun p => { port := p, kind := .portPowerOn }) ∧
      (t.part.board b).staged =
        (if (t.part.board b).offPorts = [] then .idle
          else .running 0 s.part.settings.groupInterval) ∧
      (∀ k, k ≠ b → t.part.board k = s.part.board k) ∧ (∀ i, t.part.slot i = s.part.slot i) ∧
      t.mem = s.mem ∧ t.port = s.port

/-! ### The outcome list (chapter 8) -/

/-- OUTCOME_RECORD_WRITE_START: with room in the list, no write in flight and the engine enabled, the
write of the oldest record begins. OUTCOME_RECORD_WRITE_DONE: the record stands at position written mod K
with its sequence, the head leaves the queue, the written count rises and stands in the exchange block,
the slot's outcome-pending flag clears and a waiting attach is released, and OUTCOME_ADDED is raised;
beyond the exchange block no other byte changes. -/
def Obligations.RecordsAreWritten : Prop :=
  (∀ (s : Machine.State) (q : Queued) (rest : List Queued), s.part.reports = true →
     s.part.outcomes.writing = none → s.part.outcomes.queue = q :: rest →
     s.part.outcomes.unconsumed < s.part.outcomes.capacity →
     ∃ t, exec .outcomeRecordWriteStart s = .next t ∧
       t.part = { s.part with outcomes := { s.part.outcomes with writing := some q.outcome } } ∧
       t.mem = s.mem ∧ t.port = s.port) ∧
  (∀ (s : Machine.State) (r : OutcomeRecord), s.wf → s.part.outcomes.writing = some r →
     4096 ≤ s.part.outcomes.offset →
     let o := s.part.outcomes
     let at_ := o.offset + 128 * (o.written.toNat % o.capacity)
     ∃ t, exec .outcomeRecordWriteDone s = .next t ∧
       t.mem.readBytes at_ 128 = outcomeBytes o.written r ∧
       t.part.outcomes.written = o.written + 1 ∧ t.part.outcomes.writing = none ∧
       t.part.outcomes.held = o.held ∧ t.part.outcomes.offset = o.offset ∧
       t.part.outcomes.capacity = o.capacity ∧
       t.part.outcomes.queue.map (·.outcome) = o.queue.tail.map (·.outcome) ∧
       t.mem.word 0x110 = o.written + 1 ∧
       (t.part.slot r.slot).outcomePending = false ∧
       ((s.part.slot r.slot).attachWaiting = true →
         (s.part.lane (laneOf r.slot)).state = .up → (t.part.slot r.slot).state = .settling) ∧
       (∀ k, k ≠ r.slot → t.part.slot k = s.part.slot k) ∧ t.port.has .outcomeAdded ∧
       ∀ a, a < 0x100 ∨ 0x1000 ≤ a → a < at_ ∨ at_ + 128 ≤ a → t.mem.read a = s.mem.read a)

end
end

