-- ==== Sys2Proof/Laws/State.lean ====
section
/-! SUPPORT. What each update of a working state does to each field, once: a unit replaced is read
back, every other unit and every other field is as before, and marking something to be handed over
leaves the part alone. -/

namespace Sys2Proof.Machine

/-- Reading a vector after one element is replaced. -/
theorem vector_get_set {α : Type} {n : Nat} (v : Vector α n) (i k : Fin n) (x : α) :
    (v.set i.val x i.isLt).get k = if k = i then x else v.get k := by
  have h : (v.set i.val x i.isLt).get k = (v.set i.val x i.isLt)[k.val] := rfl
  have h' : v.get k = v[k.val] := rfl
  rw [h, h', Vector.getElem_set]
  by_cases e : k = i
  · simp [e]
  · have : i.val ≠ k.val := fun h => e (Fin.ext h.symm)
    simp [e, this]

/-- Reading a vector built element by element. -/
theorem vector_get_ofFn {α : Type} {n : Nat} (f : Fin n → α) (k : Fin n) :
    (Vector.ofFn f).get k = f k := by
  have h : (Vector.ofFn f).get k = (Vector.ofFn f)[k.val] := rfl
  rw [h, Vector.getElem_ofFn]

variable (w : Work) (i k : SlotIx) (j j' : JobIx) (l l' : LaneIx) (b b' : LaneIx)

/-! ### `modSlot` -/

@[simp] theorem Work.modSlot_slot_same (g : Slot → Slot) :
    (w.modSlot i g).p.slot i = g (w.p.slot i) := by
  simp [Work.modSlot, Part.slot, vector_get_set]

theorem Work.modSlot_slot (g : Slot → Slot) :
    (w.modSlot i g).p.slot k = if k = i then g (w.p.slot i) else w.p.slot k := by
  simp [Work.modSlot, Part.slot, vector_get_set]

@[simp] theorem Work.modSlot_slot_ne (g : Slot → Slot) (h : k ≠ i) :
    (w.modSlot i g).p.slot k = w.p.slot k := by
  simp [Work.modSlot_slot, h]

@[simp] theorem Work.modSlot_job (g : Slot → Slot) :
    (w.modSlot i g).p.job j = w.p.job j := rfl

@[simp] theorem Work.modSlot_lane (g : Slot → Slot) :
    (w.modSlot i g).p.lane l = w.p.lane l := rfl

@[simp] theorem Work.modSlot_board (g : Slot → Slot) :
    (w.modSlot i g).p.board b = w.p.board b := rfl

@[simp] theorem Work.modSlot_mapOf (g : Slot → Slot) :
    (w.modSlot i g).p.mapOf i = w.p.mapOf i := rfl

@[simp] theorem Work.modSlot_straps (g : Slot → Slot) :
    (w.modSlot i g).p.straps = w.p.straps := rfl

@[simp] theorem Work.modSlot_time (g : Slot → Slot) :
    (w.modSlot i g).p.time = w.p.time := rfl

@[simp] theorem Work.modSlot_engine (g : Slot → Slot) :
    (w.modSlot i g).p.engine = w.p.engine := rfl

@[simp] theorem Work.modSlot_scan (g : Slot → Slot) :
    (w.modSlot i g).p.scan = w.p.scan := rfl

@[simp] theorem Work.modSlot_scanTimer (g : Slot → Slot) :
    (w.modSlot i g).p.scanTimer = w.p.scanTimer := rfl

@[simp] theorem Work.modSlot_refused (g : Slot → Slot) :
    (w.modSlot i g).p.refused = w.p.refused := rfl

@[simp] theorem Work.modSlot_latestCount (g : Slot → Slot) :
    (w.modSlot i g).p.latestCount = w.p.latestCount := rfl

@[simp] theorem Work.modSlot_doneCount (g : Slot → Slot) :
    (w.modSlot i g).p.doneCount = w.p.doneCount := rfl

@[simp] theorem Work.modSlot_resultCode (g : Slot → Slot) :
    (w.modSlot i g).p.resultCode = w.p.resultCode := rfl

@[simp] theorem Work.modSlot_result1 (g : Slot → Slot) :
    (w.modSlot i g).p.result1 = w.p.result1 := rfl

@[simp] theorem Work.modSlot_result2 (g : Slot → Slot) :
    (w.modSlot i g).p.result2 = w.p.result2 := rfl

@[simp] theorem Work.modSlot_command (g : Slot → Slot) :
    (w.modSlot i g).p.command = w.p.command := rfl

@[simp] theorem Work.modSlot_settings (g : Slot → Slot) :
    (w.modSlot i g).p.settings = w.p.settings := rfl

@[simp] theorem Work.modSlot_faultCode (g : Slot → Slot) :
    (w.modSlot i g).p.faultCode = w.p.faultCode := rfl

@[simp] theorem Work.modSlot_faultDetail (g : Slot → Slot) :
    (w.modSlot i g).p.faultDetail = w.p.faultDetail := rfl

@[simp] theorem Work.modSlot_intake (g : Slot → Slot) :
    (w.modSlot i g).p.intake = w.p.intake := rfl

@[simp] theorem Work.modSlot_filter (g : Slot → Slot) :
    (w.modSlot i g).p.filter = w.p.filter := rfl

@[simp] theorem Work.modSlot_probeSequence (g : Slot → Slot) :
    (w.modSlot i g).p.probeSequence = w.p.probeSequence := rfl

@[simp] theorem Work.modSlot_converter (g : Slot → Slot) :
    (w.modSlot i g).p.converter = w.p.converter := rfl

@[simp] theorem Work.modSlot_outcomes (g : Slot → Slot) :
    (w.modSlot i g).p.outcomes = w.p.outcomes := rfl

@[simp] theorem Work.modSlot_slotMap (g : Slot → Slot) :
    (w.modSlot i g).p.slotMap = w.p.slotMap := rfl

@[simp] theorem Work.modSlot_reports (g : Slot → Slot) :
    (w.modSlot i g).p.reports = w.p.reports := rfl

@[simp] theorem Work.modSlot_out (g : Slot → Slot) : (w.modSlot i g).out = w.out := rfl

/-! ### `modJob` -/

@[simp] theorem Work.modJob_job_same (g : Job → Job) :
    (w.modJob j g).p.job j = g (w.p.job j) := by
  simp [Work.modJob, Part.job, vector_get_set]

theorem Work.modJob_job (g : Job → Job) :
    (w.modJob j g).p.job j' = if j' = j then g (w.p.job j) else w.p.job j' := by
  simp [Work.modJob, Part.job, vector_get_set]

@[simp] theorem Work.modJob_job_ne (g : Job → Job) (h : j' ≠ j) :
    (w.modJob j g).p.job j' = w.p.job j' := by
  simp [Work.modJob_job, h]

@[simp] theorem Work.modJob_slot (g : Job → Job) :
    (w.modJob j g).p.slot i = w.p.slot i := rfl

@[simp] theorem Work.modJob_lane (g : Job → Job) :
    (w.modJob j g).p.lane l = w.p.lane l := rfl

@[simp] theorem Work.modJob_board (g : Job → Job) :
    (w.modJob j g).p.board b = w.p.board b := rfl

@[simp] theorem Work.modJob_mapOf (g : Job → Job) :
    (w.modJob j g).p.mapOf i = w.p.mapOf i := rfl

@[simp] theorem Work.modJob_straps (g : Job → Job) :
    (w.modJob j g).p.straps = w.p.straps := rfl

@[simp] theorem Work.modJob_time (g : Job → Job) :
    (w.modJob j g).p.time = w.p.time := rfl

@[simp] theorem Work.modJob_engine (g : Job → Job) :
    (w.modJob j g).p.engine = w.p.engine := rfl

@[simp] theorem Work.modJob_scan (g : Job → Job) :
    (w.modJob j g).p.scan = w.p.scan := rfl

@[simp] theorem Work.modJob_scanTimer (g : Job → Job) :
    (w.modJob j g).p.scanTimer = w.p.scanTimer := rfl

@[simp] theorem Work.modJob_refused (g : Job → Job) :
    (w.modJob j g).p.refused = w.p.refused := rfl

@[simp] theorem Work.modJob_latestCount (g : Job → Job) :
    (w.modJob j g).p.latestCount = w.p.latestCount := rfl

@[simp] theorem Work.modJob_doneCount (g : Job → Job) :
    (w.modJob j g).p.doneCount = w.p.doneCount := rfl

@[simp] theorem Work.modJob_resultCode (g : Job → Job) :
    (w.modJob j g).p.resultCode = w.p.resultCode := rfl

@[simp] theorem Work.modJob_result1 (g : Job → Job) :
    (w.modJob j g).p.result1 = w.p.result1 := rfl

@[simp] theorem Work.modJob_result2 (g : Job → Job) :
    (w.modJob j g).p.result2 = w.p.result2 := rfl

@[simp] theorem Work.modJob_command (g : Job → Job) :
    (w.modJob j g).p.command = w.p.command := rfl

@[simp] theorem Work.modJob_settings (g : Job → Job) :
    (w.modJob j g).p.settings = w.p.settings := rfl

@[simp] theorem Work.modJob_faultCode (g : Job → Job) :
    (w.modJob j g).p.faultCode = w.p.faultCode := rfl

@[simp] theorem Work.modJob_faultDetail (g : Job → Job) :
    (w.modJob j g).p.faultDetail = w.p.faultDetail := rfl

@[simp] theorem Work.modJob_intake (g : Job → Job) :
    (w.modJob j g).p.intake = w.p.intake := rfl

@[simp] theorem Work.modJob_filter (g : Job → Job) :
    (w.modJob j g).p.filter = w.p.filter := rfl

@[simp] theorem Work.modJob_probeSequence (g : Job → Job) :
    (w.modJob j g).p.probeSequence = w.p.probeSequence := rfl

@[simp] theorem Work.modJob_converter (g : Job → Job) :
    (w.modJob j g).p.converter = w.p.converter := rfl

@[simp] theorem Work.modJob_outcomes (g : Job → Job) :
    (w.modJob j g).p.outcomes = w.p.outcomes := rfl

@[simp] theorem Work.modJob_slotMap (g : Job → Job) :
    (w.modJob j g).p.slotMap = w.p.slotMap := rfl

@[simp] theorem Work.modJob_reports (g : Job → Job) :
    (w.modJob j g).p.reports = w.p.reports := rfl

@[simp] theorem Work.modJob_out (g : Job → Job) : (w.modJob j g).out = w.out := rfl

/-! ### `modLane` -/

@[simp] theorem Work.modLane_lane_same (g : Lane → Lane) :
    (w.modLane l g).p.lane l = g (w.p.lane l) := by
  simp [Work.modLane, Part.lane, vector_get_set]

theorem Work.modLane_lane (g : Lane → Lane) :
    (w.modLane l g).p.lane l' = if l' = l then g (w.p.lane l) else w.p.lane l' := by
  simp [Work.modLane, Part.lane, vector_get_set]

@[simp] theorem Work.modLane_lane_ne (g : Lane → Lane) (h : l' ≠ l) :
    (w.modLane l g).p.lane l' = w.p.lane l' := by
  simp [Work.modLane_lane, h]

@[simp] theorem Work.modLane_slot (g : Lane → Lane) :
    (w.modLane l g).p.slot i = w.p.slot i := rfl

@[simp] theorem Work.modLane_job (g : Lane → Lane) :
    (w.modLane l g).p.job j = w.p.job j := rfl

@[simp] theorem Work.modLane_board (g : Lane → Lane) :
    (w.modLane l g).p.board b = w.p.board b := rfl

@[simp] theorem Work.modLane_mapOf (g : Lane → Lane) :
    (w.modLane l g).p.mapOf i = w.p.mapOf i := rfl

@[simp] theorem Work.modLane_straps (g : Lane → Lane) :
    (w.modLane l g).p.straps = w.p.straps := rfl

@[simp] theorem Work.modLane_time (g : Lane → Lane) :
    (w.modLane l g).p.time = w.p.time := rfl

@[simp] theorem Work.modLane_engine (g : Lane → Lane) :
    (w.modLane l g).p.engine = w.p.engine := rfl

@[simp] theorem Work.modLane_scan (g : Lane → Lane) :
    (w.modLane l g).p.scan = w.p.scan := rfl

@[simp] theorem Work.modLane_scanTimer (g : Lane → Lane) :
    (w.modLane l g).p.scanTimer = w.p.scanTimer := rfl

@[simp] theorem Work.modLane_refused (g : Lane → Lane) :
    (w.modLane l g).p.refused = w.p.refused := rfl

@[simp] theorem Work.modLane_latestCount (g : Lane → Lane) :
    (w.modLane l g).p.latestCount = w.p.latestCount := rfl

@[simp] theorem Work.modLane_doneCount (g : Lane → Lane) :
    (w.modLane l g).p.doneCount = w.p.doneCount := rfl

@[simp] theorem Work.modLane_resultCode (g : Lane → Lane) :
    (w.modLane l g).p.resultCode = w.p.resultCode := rfl

@[simp] theorem Work.modLane_result1 (g : Lane → Lane) :
    (w.modLane l g).p.result1 = w.p.result1 := rfl

@[simp] theorem Work.modLane_result2 (g : Lane → Lane) :
    (w.modLane l g).p.result2 = w.p.result2 := rfl

@[simp] theorem Work.modLane_command (g : Lane → Lane) :
    (w.modLane l g).p.command = w.p.command := rfl

@[simp] theorem Work.modLane_settings (g : Lane → Lane) :
    (w.modLane l g).p.settings = w.p.settings := rfl

@[simp] theorem Work.modLane_faultCode (g : Lane → Lane) :
    (w.modLane l g).p.faultCode = w.p.faultCode := rfl

@[simp] theorem Work.modLane_faultDetail (g : Lane → Lane) :
    (w.modLane l g).p.faultDetail = w.p.faultDetail := rfl

@[simp] theorem Work.modLane_intake (g : Lane → Lane) :
    (w.modLane l g).p.intake = w.p.intake := rfl

@[simp] theorem Work.modLane_filter (g : Lane → Lane) :
    (w.modLane l g).p.filter = w.p.filter := rfl

@[simp] theorem Work.modLane_probeSequence (g : Lane → Lane) :
    (w.modLane l g).p.probeSequence = w.p.probeSequence := rfl

@[simp] theorem Work.modLane_converter (g : Lane → Lane) :
    (w.modLane l g).p.converter = w.p.converter := rfl

@[simp] theorem Work.modLane_outcomes (g : Lane → Lane) :
    (w.modLane l g).p.outcomes = w.p.outcomes := rfl

@[simp] theorem Work.modLane_slotMap (g : Lane → Lane) :
    (w.modLane l g).p.slotMap = w.p.slotMap := rfl

@[simp] theorem Work.modLane_reports (g : Lane → Lane) :
    (w.modLane l g).p.reports = w.p.reports := rfl

@[simp] theorem Work.modLane_out (g : Lane → Lane) : (w.modLane l g).out = w.out := rfl

/-! ### `modBoard` -/

@[simp] theorem Work.modBoard_board_same (g : Board → Board) :
    (w.modBoard b g).p.board b = g (w.p.board b) := by
  simp [Work.modBoard, Part.board, vector_get_set]

theorem Work.modBoard_board (g : Board → Board) :
    (w.modBoard b g).p.board b' = if b' = b then g (w.p.board b) else w.p.board b' := by
  simp [Work.modBoard, Part.board, vector_get_set]

@[simp] theorem Work.modBoard_board_ne (g : Board → Board) (h : b' ≠ b) :
    (w.modBoard b g).p.board b' = w.p.board b' := by
  simp [Work.modBoard_board, h]

@[simp] theorem Work.modBoard_slot (g : Board → Board) :
    (w.modBoard b g).p.slot i = w.p.slot i := rfl

@[simp] theorem Work.modBoard_job (g : Board → Board) :
    (w.modBoard b g).p.job j = w.p.job j := rfl

@[simp] theorem Work.modBoard_lane (g : Board → Board) :
    (w.modBoard b g).p.lane l = w.p.lane l := rfl

@[simp] theorem Work.modBoard_mapOf (g : Board → Board) :
    (w.modBoard b g).p.mapOf i = w.p.mapOf i := rfl

@[simp] theorem Work.modBoard_straps (g : Board → Board) :
    (w.modBoard b g).p.straps = w.p.straps := rfl

@[simp] theorem Work.modBoard_time (g : Board → Board) :
    (w.modBoard b g).p.time = w.p.time := rfl

@[simp] theorem Work.modBoard_engine (g : Board → Board) :
    (w.modBoard b g).p.engine = w.p.engine := rfl

@[simp] theorem Work.modBoard_scan (g : Board → Board) :
    (w.modBoard b g).p.scan = w.p.scan := rfl

@[simp] theorem Work.modBoard_scanTimer (g : Board → Board) :
    (w.modBoard b g).p.scanTimer = w.p.scanTimer := rfl

@[simp] theorem Work.modBoard_refused (g : Board → Board) :
    (w.modBoard b g).p.refused = w.p.refused := rfl

@[simp] theorem Work.modBoard_latestCount (g : Board → Board) :
    (w.modBoard b g).p.latestCount = w.p.latestCount := rfl

@[simp] theorem Work.modBoard_doneCount (g : Board → Board) :
    (w.modBoard b g).p.doneCount = w.p.doneCount := rfl

@[simp] theorem Work.modBoard_resultCode (g : Board → Board) :
    (w.modBoard b g).p.resultCode = w.p.resultCode := rfl

@[simp] theorem Work.modBoard_result1 (g : Board → Board) :
    (w.modBoard b g).p.result1 = w.p.result1 := rfl

@[simp] theorem Work.modBoard_result2 (g : Board → Board) :
    (w.modBoard b g).p.result2 = w.p.result2 := rfl

@[simp] theorem Work.modBoard_command (g : Board → Board) :
    (w.modBoard b g).p.command = w.p.command := rfl

@[simp] theorem Work.modBoard_settings (g : Board → Board) :
    (w.modBoard b g).p.settings = w.p.settings := rfl

@[simp] theorem Work.modBoard_faultCode (g : Board → Board) :
    (w.modBoard b g).p.faultCode = w.p.faultCode := rfl

@[simp] theorem Work.modBoard_faultDetail (g : Board → Board) :
    (w.modBoard b g).p.faultDetail = w.p.faultDetail := rfl

@[simp] theorem Work.modBoard_intake (g : Board → Board) :
    (w.modBoard b g).p.intake = w.p.intake := rfl

@[simp] theorem Work.modBoard_filter (g : Board → Board) :
    (w.modBoard b g).p.filter = w.p.filter := rfl

@[simp] theorem Work.modBoard_probeSequence (g : Board → Board) :
    (w.modBoard b g).p.probeSequence = w.p.probeSequence := rfl

@[simp] theorem Work.modBoard_converter (g : Board → Board) :
    (w.modBoard b g).p.converter = w.p.converter := rfl

@[simp] theorem Work.modBoard_outcomes (g : Board → Board) :
    (w.modBoard b g).p.outcomes = w.p.outcomes := rfl

@[simp] theorem Work.modBoard_slotMap (g : Board → Board) :
    (w.modBoard b g).p.slotMap = w.p.slotMap := rfl

@[simp] theorem Work.modBoard_reports (g : Board → Board) :
    (w.modBoard b g).p.reports = w.p.reports := rfl

@[simp] theorem Work.modBoard_out (g : Board → Board) : (w.modBoard b g).out = w.out := rfl

/-! ### Handing over -/

@[simp] theorem Work.touchSlot_p : (w.touchSlot i).p = w.p := rfl

@[simp] theorem Work.touchJob_p : (w.touchJob j).p = w.p := rfl

@[simp] theorem Work.touchLane_p : (w.touchLane l).p = w.p := rfl

@[simp] theorem Work.touchBoard_p : (w.touchBoard b).p = w.p := rfl

@[simp] theorem Work.put_p (x : Nat) (y : List Byte) : (w.put x y).p = w.p := rfl

@[simp] theorem Work.putLast_p (x : Nat) (y : List Byte) : (w.putLast x y).p = w.p := rfl

@[simp] theorem Work.raise_p (c : Cause) : (w.raise c).p = w.p := rfl

@[simp] theorem Work.raiseNow_p (c : Cause) : (w.raiseNow c).p = w.p := rfl

@[simp] theorem Work.reportCommandJobs_p : w.reportCommandJobs.p = w.p := rfl

@[simp] theorem Work.touchSlot_writes :
    (w.touchSlot i).out.writes = w.out.writes := rfl

@[simp] theorem Work.touchSlot_last :
    (w.touchSlot i).out.last = w.out.last := rfl

@[simp] theorem Work.touchSlot_slots :
    (w.touchSlot i).out.slots = i :: w.out.slots := rfl

@[simp] theorem Work.touchSlot_jobs :
    (w.touchSlot i).out.jobs = w.out.jobs := rfl

@[simp] theorem Work.touchSlot_lanes :
    (w.touchSlot i).out.lanes = w.out.lanes := rfl

@[simp] theorem Work.touchSlot_boards :
    (w.touchSlot i).out.boards = w.out.boards := rfl

@[simp] theorem Work.touchSlot_forced :
    (w.touchSlot i).out.forced = w.out.forced := rfl

@[simp] theorem Work.touchSlot_causes :
    (w.touchSlot i).out.causes = w.out.causes := rfl

@[simp] theorem Work.touchSlot_now :
    (w.touchSlot i).out.now = w.out.now := rfl

@[simp] theorem Work.touchJob_writes :
    (w.touchJob j).out.writes = w.out.writes := rfl

@[simp] theorem Work.touchJob_last :
    (w.touchJob j).out.last = w.out.last := rfl

@[simp] theorem Work.touchJob_slots :
    (w.touchJob j).out.slots = w.out.slots := rfl

@[simp] theorem Work.touchJob_jobs :
    (w.touchJob j).out.jobs = j :: w.out.jobs := rfl

@[simp] theorem Work.touchJob_lanes :
    (w.touchJob j).out.lanes = w.out.lanes := rfl

@[simp] theorem Work.touchJob_boards :
    (w.touchJob j).out.boards = w.out.boards := rfl

@[simp] theorem Work.touchJob_forced :
    (w.touchJob j).out.forced = w.out.forced := rfl

@[simp] theorem Work.touchJob_causes :
    (w.touchJob j).out.causes = w.out.causes := rfl

@[simp] theorem Work.touchJob_now :
    (w.touchJob j).out.now = w.out.now := rfl

@[simp] theorem Work.touchLane_writes :
    (w.touchLane l).out.writes = w.out.writes := rfl

@[simp] theorem Work.touchLane_last :
    (w.touchLane l).out.last = w.out.last := rfl

@[simp] theorem Work.touchLane_slots :
    (w.touchLane l).out.slots = w.out.slots := rfl

@[simp] theorem Work.touchLane_jobs :
    (w.touchLane l).out.jobs = w.out.jobs := rfl

@[simp] theorem Work.touchLane_lanes :
    (w.touchLane l).out.lanes = l :: w.out.lanes := rfl

@[simp] theorem Work.touchLane_boards :
    (w.touchLane l).out.boards = w.out.boards := rfl

@[simp] theorem Work.touchLane_forced :
    (w.touchLane l).out.forced = w.out.forced := rfl

@[simp] theorem Work.touchLane_causes :
    (w.touchLane l).out.causes = w.out.causes := rfl

@[simp] theorem Work.touchLane_now :
    (w.touchLane l).out.now = w.out.now := rfl

@[simp] theorem Work.touchBoard_writes :
    (w.touchBoard b).out.writes = w.out.writes := rfl

@[simp] theorem Work.touchBoard_last :
    (w.touchBoard b).out.last = w.out.last := rfl

@[simp] theorem Work.touchBoard_slots :
    (w.touchBoard b).out.slots = w.out.slots := rfl

@[simp] theorem Work.touchBoard_jobs :
    (w.touchBoard b).out.jobs = w.out.jobs := rfl

@[simp] theorem Work.touchBoard_lanes :
    (w.touchBoard b).out.lanes = w.out.lanes := rfl

@[simp] theorem Work.touchBoard_boards :
    (w.touchBoard b).out.boards = b :: w.out.boards := rfl

@[simp] theorem Work.touchBoard_forced :
    (w.touchBoard b).out.forced = w.out.forced := rfl

@[simp] theorem Work.touchBoard_causes :
    (w.touchBoard b).out.causes = w.out.causes := rfl

@[simp] theorem Work.touchBoard_now :
    (w.touchBoard b).out.now = w.out.now := rfl

@[simp] theorem Work.put_writes (x : Nat) (y : List Byte) :
    (w.put x y).out.writes = w.out.writes ++ [(x, y)] := rfl

@[simp] theorem Work.put_last (x : Nat) (y : List Byte) :
    (w.put x y).out.last = w.out.last := rfl

@[simp] theorem Work.put_slots (x : Nat) (y : List Byte) :
    (w.put x y).out.slots = w.out.slots := rfl

@[simp] theorem Work.put_jobs (x : Nat) (y : List Byte) :
    (w.put x y).out.jobs = w.out.jobs := rfl

@[simp] theorem Work.put_lanes (x : Nat) (y : List Byte) :
    (w.put x y).out.lanes = w.out.lanes := rfl

@[simp] theorem Work.put_boards (x : Nat) (y : List Byte) :
    (w.put x y).out.boards = w.out.boards := rfl

@[simp] theorem Work.put_forced (x : Nat) (y : List Byte) :
    (w.put x y).out.forced = w.out.forced := rfl

@[simp] theorem Work.put_causes (x : Nat) (y : List Byte) :
    (w.put x y).out.causes = w.out.causes := rfl

@[simp] theorem Work.put_now (x : Nat) (y : List Byte) :
    (w.put x y).out.now = w.out.now := rfl

@[simp] theorem Work.putLast_writes (x : Nat) (y : List Byte) :
    (w.putLast x y).out.writes = w.out.writes := rfl

@[simp] theorem Work.putLast_last (x : Nat) (y : List Byte) :
    (w.putLast x y).out.last = w.out.last ++ [(x, y)] := rfl

@[simp] theorem Work.putLast_slots (x : Nat) (y : List Byte) :
    (w.putLast x y).out.slots = w.out.slots := rfl

@[simp] theorem Work.putLast_jobs (x : Nat) (y : List Byte) :
    (w.putLast x y).out.jobs = w.out.jobs := rfl

@[simp] theorem Work.putLast_lanes (x : Nat) (y : List Byte) :
    (w.putLast x y).out.lanes = w.out.lanes := rfl

@[simp] theorem Work.putLast_boards (x : Nat) (y : List Byte) :
    (w.putLast x y).out.boards = w.out.boards := rfl

@[simp] theorem Work.putLast_forced (x : Nat) (y : List Byte) :
    (w.putLast x y).out.forced = w.out.forced := rfl

@[simp] theorem Work.putLast_causes (x : Nat) (y : List Byte) :
    (w.putLast x y).out.causes = w.out.causes := rfl

@[simp] theorem Work.putLast_now (x : Nat) (y : List Byte) :
    (w.putLast x y).out.now = w.out.now := rfl

@[simp] theorem Work.raise_writes (c : Cause) :
    (w.raise c).out.writes = w.out.writes := rfl

@[simp] theorem Work.raise_last (c : Cause) :
    (w.raise c).out.last = w.out.last := rfl

@[simp] theorem Work.raise_slots (c : Cause) :
    (w.raise c).out.slots = w.out.slots := rfl

@[simp] theorem Work.raise_jobs (c : Cause) :
    (w.raise c).out.jobs = w.out.jobs := rfl

@[simp] theorem Work.raise_lanes (c : Cause) :
    (w.raise c).out.lanes = w.out.lanes := rfl

@[simp] theorem Work.raise_boards (c : Cause) :
    (w.raise c).out.boards = w.out.boards := rfl

@[simp] theorem Work.raise_forced (c : Cause) :
    (w.raise c).out.forced = w.out.forced := rfl

@[simp] theorem Work.raise_causes (c : Cause) :
    (w.raise c).out.causes = w.out.causes ||| c.bit := rfl

@[simp] theorem Work.raise_now (c : Cause) :
    (w.raise c).out.now = w.out.now := rfl

@[simp] theorem Work.raiseNow_writes (c : Cause) :
    (w.raiseNow c).out.writes = w.out.writes := rfl

@[simp] theorem Work.raiseNow_last (c : Cause) :
    (w.raiseNow c).out.last = w.out.last := rfl

@[simp] theorem Work.raiseNow_slots (c : Cause) :
    (w.raiseNow c).out.slots = w.out.slots := rfl

@[simp] theorem Work.raiseNow_jobs (c : Cause) :
    (w.raiseNow c).out.jobs = w.out.jobs := rfl

@[simp] theorem Work.raiseNow_lanes (c : Cause) :
    (w.raiseNow c).out.lanes = w.out.lanes := rfl

@[simp] theorem Work.raiseNow_boards (c : Cause) :
    (w.raiseNow c).out.boards = w.out.boards := rfl

@[simp] theorem Work.raiseNow_forced (c : Cause) :
    (w.raiseNow c).out.forced = w.out.forced := rfl

@[simp] theorem Work.raiseNow_causes (c : Cause) :
    (w.raiseNow c).out.causes = w.out.causes := rfl

@[simp] theorem Work.raiseNow_now (c : Cause) :
    (w.raiseNow c).out.now = w.out.now ||| c.bit := rfl

@[simp] theorem Work.reportCommandJobs_writes :
    w.reportCommandJobs.out.writes = w.out.writes := rfl

@[simp] theorem Work.reportCommandJobs_last :
    w.reportCommandJobs.out.last = w.out.last := rfl

@[simp] theorem Work.reportCommandJobs_slots :
    w.reportCommandJobs.out.slots = w.out.slots := rfl

@[simp] theorem Work.reportCommandJobs_jobs :
    w.reportCommandJobs.out.jobs = w.out.jobs := rfl

@[simp] theorem Work.reportCommandJobs_lanes :
    w.reportCommandJobs.out.lanes = w.out.lanes := rfl

@[simp] theorem Work.reportCommandJobs_boards :
    w.reportCommandJobs.out.boards = w.out.boards := rfl

@[simp] theorem Work.reportCommandJobs_forced :
    w.reportCommandJobs.out.forced = w.out.jobs ++ w.out.forced := rfl

@[simp] theorem Work.reportCommandJobs_causes :
    w.reportCommandJobs.out.causes = w.out.causes &&& ~~~Cause.jobChanged.bit := rfl

@[simp] theorem Work.reportCommandJobs_now :
    w.reportCommandJobs.out.now = w.out.now ||| (w.out.causes &&& Cause.jobChanged.bit) := rfl

@[simp] theorem Work.touchMember_p (m : Option JobIx) : (w.touchMember m).p = w.p := by
  cases m <;> rfl

@[simp] theorem Work.touchMember_writes (m : Option JobIx) :
    (w.touchMember m).out.writes = w.out.writes := by
  cases m <;> rfl

@[simp] theorem Work.touchMember_last (m : Option JobIx) :
    (w.touchMember m).out.last = w.out.last := by
  cases m <;> rfl

@[simp] theorem Work.touchMember_slots (m : Option JobIx) :
    (w.touchMember m).out.slots = w.out.slots := by
  cases m <;> rfl

@[simp] theorem Work.touchMember_lanes (m : Option JobIx) :
    (w.touchMember m).out.lanes = w.out.lanes := by
  cases m <;> rfl

@[simp] theorem Work.touchMember_boards (m : Option JobIx) :
    (w.touchMember m).out.boards = w.out.boards := by
  cases m <;> rfl

@[simp] theorem Work.touchMember_forced (m : Option JobIx) :
    (w.touchMember m).out.forced = w.out.forced := by
  cases m <;> rfl

@[simp] theorem Work.touchMember_causes (m : Option JobIx) :
    (w.touchMember m).out.causes = w.out.causes := by
  cases m <;> rfl

@[simp] theorem Work.touchMember_now (m : Option JobIx) :
    (w.touchMember m).out.now = w.out.now := by
  cases m <;> rfl

@[simp] theorem Work.jobChanged_p : (w.jobChanged j).p = w.p := rfl

@[simp] theorem Work.laneChanged_p : (w.laneChanged l).p = w.p := rfl

@[simp] theorem Work.boardChanged_p : (w.boardChanged b).p = w.p := rfl

/-! ### The state a command starts from and leaves -/

@[simp] theorem Work.start_p (s : State) : (Work.start s).p = s.part := rfl

@[simp] theorem Work.start_out (s : State) : (Work.start s).out = .none := rfl

@[simp] theorem commit_part (s : State) : (commit s w).part = w.p := rfl

@[simp] theorem commit_port (s : State) : (commit s w).port = w.causesAfter s.port := rfl

@[simp] theorem commit_mem (s : State) :
    (commit s w).mem = s.mem.applyUnits (w.units ++ w.clockUnit) := rfl

@[simp] theorem commit_pending (s : State) : (commit s w).pending = s.pending := rfl

/-! ### Slots, lanes and ports by number -/

@[simp] theorem laneOf_slotOf (p : PortIx) : laneOf (slotOf l p) = l := by
  apply Fin.ext; have := p.isLt; simp [laneOf, slotOf]; omega

@[simp] theorem portOf_slotOf (p : PortIx) : portOf (slotOf l p) = p := by
  apply Fin.ext; simp [portOf, slotOf]

@[simp] theorem slotOf_laneOf_portOf : slotOf (laneOf i) (portOf i) = i := by
  apply Fin.ext; simp [portOf, slotOf, laneOf]; omega

end Sys2Proof.Machine
end

