-- ==== Sys2Proof/Laws/Frames.lean ====
section
/-! SUPPORT. What the shared operations of slots, jobs, lanes and boards keep: the straps, the time
base, the engine, the scan, the command unit and its results, the settings, the filter, the converter;
every board's supply; every lane's state; every job's definition; the outcome list and its counts. One
lemma per operation. -/

namespace Sys2Proof.Machine

/-- Parts that agree in every kept item have the same kept part. -/
theorem Part.kept_congr {p q : Part} (hh : p.kept.header = q.kept.header)
    (hl : p.kept.list = q.kept.list) (hs : ∀ b, (p.board b).supply = (q.board b).supply)
    (hn : ∀ l, (p.lane l).state = (q.lane l).state)
    (hj : ∀ j, (p.job j).definition = (q.job j).definition) : p.kept = q.kept := by
  have e1 : p.kept.supply = q.kept.supply := funext hs
  have e2 : p.kept.lane = q.kept.lane := funext hn
  have e3 : p.kept.job = q.kept.job := funext hj
  have h : ∀ a b : Kept, a.header = b.header → a.list = b.list → a.supply = b.supply →
      a.lane = b.lane → a.job = b.job → a = b := by
    intro a b; cases a; cases b; simp_all
  exact h _ _ hh hl e1 e2 e3

/-! ### Reading the kept part -/

theorem Part.straps_of_kept {p q : Part} (h : p.kept = q.kept) : p.straps = q.straps :=
  congrArg (fun k => k.header.straps) h

theorem Part.time_of_kept {p q : Part} (h : p.kept = q.kept) : p.time = q.time :=
  congrArg (fun k => k.header.time) h

theorem Part.engine_of_kept {p q : Part} (h : p.kept = q.kept) : p.engine = q.engine :=
  congrArg (fun k => k.header.engine) h

theorem Part.scan_of_kept {p q : Part} (h : p.kept = q.kept) : p.scan = q.scan :=
  congrArg (fun k => k.header.scan) h

theorem Part.scanTimer_of_kept {p q : Part} (h : p.kept = q.kept) : p.scanTimer = q.scanTimer :=
  congrArg (fun k => k.header.scanTimer) h

theorem Part.refused_of_kept {p q : Part} (h : p.kept = q.kept) : p.refused = q.refused :=
  congrArg (fun k => k.header.refused) h

theorem Part.latestCount_of_kept {p q : Part} (h : p.kept = q.kept) : p.latestCount = q.latestCount :=
  congrArg (fun k => k.header.latestCount) h

theorem Part.doneCount_of_kept {p q : Part} (h : p.kept = q.kept) : p.doneCount = q.doneCount :=
  congrArg (fun k => k.header.doneCount) h

theorem Part.resultCode_of_kept {p q : Part} (h : p.kept = q.kept) : p.resultCode = q.resultCode :=
  congrArg (fun k => k.header.resultCode) h

theorem Part.result1_of_kept {p q : Part} (h : p.kept = q.kept) : p.result1 = q.result1 :=
  congrArg (fun k => k.header.result1) h

theorem Part.result2_of_kept {p q : Part} (h : p.kept = q.kept) : p.result2 = q.result2 :=
  congrArg (fun k => k.header.result2) h

theorem Part.command_of_kept {p q : Part} (h : p.kept = q.kept) : p.command = q.command :=
  congrArg (fun k => k.header.command) h

theorem Part.settings_of_kept {p q : Part} (h : p.kept = q.kept) : p.settings = q.settings :=
  congrArg (fun k => k.header.settings) h

theorem Part.filter_of_kept {p q : Part} (h : p.kept = q.kept) : p.filter = q.filter :=
  congrArg (fun k => k.header.filter) h

theorem Part.converter_of_kept {p q : Part} (h : p.kept = q.kept) : p.converter = q.converter :=
  congrArg (fun k => k.header.converter) h

theorem Part.written_of_kept {p q : Part} (h : p.kept = q.kept) :
    p.outcomes.written = q.outcomes.written :=
  congrArg (fun k => k.list.written) h

theorem Part.held_of_kept {p q : Part} (h : p.kept = q.kept) :
    p.outcomes.held = q.outcomes.held :=
  congrArg (fun k => k.list.held) h

theorem Part.offset_of_kept {p q : Part} (h : p.kept = q.kept) :
    p.outcomes.offset = q.outcomes.offset :=
  congrArg (fun k => k.list.offset) h

theorem Part.capacity_of_kept {p q : Part} (h : p.kept = q.kept) :
    p.outcomes.capacity = q.outcomes.capacity :=
  congrArg (fun k => k.list.capacity) h

theorem Part.writing_of_kept {p q : Part} (h : p.kept = q.kept) :
    p.outcomes.writing = q.outcomes.writing :=
  congrArg (fun k => k.list.writing) h

theorem Part.supply_of_kept {p q : Part} (h : p.kept = q.kept) (b : LaneIx) :
    (p.board b).supply = (q.board b).supply :=
  congrFun (congrArg Kept.supply h) b

theorem Part.laneState_of_kept {p q : Part} (h : p.kept = q.kept) (l : LaneIx) :
    (p.lane l).state = (q.lane l).state :=
  congrFun (congrArg Kept.lane h) l

theorem Part.definition_of_kept {p q : Part} (h : p.kept = q.kept) (j : JobIx) :
    (p.job j).definition = (q.job j).definition :=
  congrFun (congrArg Kept.job h) j

theorem Part.reports_of_kept {p q : Part} (h : p.kept = q.kept) : p.reports = q.reports := by
  simp [Part.reports, Part.engine_of_kept h]

/-! ### The primitive updates -/

@[simp] theorem Work.modSlot_kept (w : Work) (i : SlotIx) (g : Slot → Slot) :
    (w.modSlot i g).p.kept = w.p.kept := rfl

@[simp] theorem Work.modJob_kept (w : Work) (j : JobIx) (g : Job → Job)
    (h : (g (w.p.job j)).definition = (w.p.job j).definition) :
    (w.modJob j g).p.kept = w.p.kept := by
  refine Part.kept_congr rfl rfl (fun _ => rfl) (fun _ => rfl) (fun k => ?_)
  rw [Work.modJob_job]; split
  · rename_i e; rw [h, e]
  · rfl

@[simp] theorem Work.modLane_kept (w : Work) (l : LaneIx) (g : Lane → Lane)
    (h : (g (w.p.lane l)).state = (w.p.lane l).state) :
    (w.modLane l g).p.kept = w.p.kept := by
  refine Part.kept_congr rfl rfl (fun _ => rfl) (fun k => ?_) (fun _ => rfl)
  rw [Work.modLane_lane]; split
  · rename_i e; rw [h, e]
  · rfl

@[simp] theorem Work.modBoard_kept (w : Work) (b : LaneIx) (g : Board → Board)
    (h : (g (w.p.board b)).supply = (w.p.board b).supply) :
    (w.modBoard b g).p.kept = w.p.kept := by
  refine Part.kept_congr rfl rfl (fun k => ?_) (fun _ => rfl) (fun _ => rfl)
  rw [Work.modBoard_board]; split
  · rename_i e; rw [h, e]
  · rfl

/-- A fold of operations that each keep it keeps it. -/
theorem foldl_kept {α : Type} (f : Work → α → Work) (h : ∀ w a, (f w a).p.kept = w.p.kept)
    (as : List α) (w : Work) : (as.foldl f w).p.kept = w.p.kept := by
  induction as generalizing w with
  | nil => rfl
  | cons a as ih => rw [List.foldl_cons, ih, h]

@[simp] theorem Work.fault_kept (w : Work) (c : FaultCode) (d : Nat) :
    (w.fault c d).p.kept = w.p.kept := rfl

@[simp] theorem Work.setMap_kept (w : Work) (is : List SlotIx) (m : Option JobIx) :
    (w.setMap is m).p.kept = w.p.kept := rfl

@[simp] theorem Lane.freeWhere_state (l : Lane) (port : PortIx) (test : Place → Bool) :
    (l.freeWhere port test).state = l.state := rfl

@[simp] theorem Job.effective_withF_definition (c : Job) (f p : Nat) :
    Job.definition { c with f := f, p := p } = c.definition := rfl

@[simp] theorem Board.setPorts_supply (b : Board) (ps : List PortIx) (x : PortPower) :
    (b.setPorts ps x).supply = b.supply := rfl

/-! ### The operations -/

@[simp] theorem Work.free_kept (w : Work) (i : SlotIx) :
    (w.free i).p.kept = w.p.kept := by
  exact Work.modLane_kept w _ _ rfl

@[simp] theorem Work.request_kept (w : Work) (i : SlotIx) (k : ControlKind) :
    (w.request i k).p.kept = w.p.kept := by
  simp only [Work.request]
  simp

@[simp] theorem Work.withdraw_kept (w : Work) (i : SlotIx) (test : ControlKind → Bool) :
    (w.withdraw i test).p.kept = w.p.kept := by
  simp only [Work.withdraw]
  simp

@[simp] theorem Work.pendLamp_kept (w : Work) (i : SlotIx) (c : Lamp) :
    (w.pendLamp i c).p.kept = w.p.kept := by
  simp only [Work.pendLamp]
  (repeat' split) <;> simp

@[simp] theorem Work.refreshLamp_kept (w : Work) (i : SlotIx) :
    (w.refreshLamp i).p.kept = w.p.kept := by
  simp only [Work.refreshLamp]
  (repeat' split) <;> simp

@[simp] theorem Work.refreshMode_kept (w : Work) (b : LaneIx) :
    (w.refreshMode b).p.kept = w.p.kept := by
  simp [Work.refreshMode, Board.supply]

@[simp] theorem Work.refreshProgress_kept (w : Work) (i : SlotIx) :
    (w.refreshProgress i).p.kept = w.p.kept := by
  simp only [Work.refreshProgress]
  simp

@[simp] theorem Work.updateProgress_kept (w : Work) (i : SlotIx) :
    (w.updateProgress i).p.kept = w.p.kept := by
  simp only [Work.updateProgress]
  (repeat' split) <;> simp

@[simp] theorem Work.enterState_kept (w : Work) (i : SlotIx) (st : SlotState) :
    (w.enterState i st).p.kept = w.p.kept := by
  simp only [Work.enterState]
  simp

@[simp] theorem Work.append_kept (w : Work) (r : OutcomeRecord) :
    (w.append r).p.kept = w.p.kept := by
  simp only [Work.append]
  split <;> rfl

@[simp] theorem Work.terminal_kept (w : Work) (i : SlotIx) (st : SlotState) (r : Reason) :
    (w.terminal i st r).p.kept = w.p.kept := by
  simp only [Work.terminal]
  simp

@[simp] theorem Work.fail_kept (w : Work) (i : SlotIx) (r : Reason) :
    (w.fail i r).p.kept = w.p.kept := by
  simp only [Work.fail]
  simp

@[simp] theorem Work.recomputeRelease_kept (w : Work) (j : JobIx) :
    (w.recomputeRelease j).p.kept = w.p.kept := by
  simp only [Work.recomputeRelease]
  (repeat' split) <;> simp [Job.definition]

@[simp] theorem Work.evalLag_kept (w : Work) (j : JobIx) :
    (w.evalLag j).p.kept = w.p.kept := by
  simp only [Work.evalLag]
  (repeat' split) <;> simp [Job.definition]

@[simp] theorem Work.failWaiting_kept (w : Work) (j : JobIx) :
    (w.failWaiting j).p.kept = w.p.kept := by
  unfold Work.failWaiting
  apply foldl_kept
  intros
  try dsimp only
  (repeat' split) <;> simp

@[simp] theorem Work.endPass_kept (w : Work) (j : JobIx) :
    (w.endPass j).p.kept = w.p.kept := by
  simp only [Work.endPass]
  (repeat' split) <;> simp [Job.definition]

@[simp] theorem Work.testPassEnd_kept (w : Work) (j : JobIx) :
    (w.testPassEnd j).p.kept = w.p.kept := by
  simp only [Work.testPassEnd]
  (repeat' split) <;> simp

@[simp] theorem Work.setJobState_kept (w : Work) (j : JobIx) (st : JobState) :
    (w.setJobState j st).p.kept = w.p.kept := by
  simp [Work.setJobState, Job.definition]

@[simp] theorem Work.testPaused_kept (w : Work) (j : JobIx) :
    (w.testPaused j).p.kept = w.p.kept := by
  simp only [Work.testPaused]
  (repeat' split) <;> simp

@[simp] theorem Work.testEnded_kept (w : Work) (j : JobIx) :
    (w.testEnded j).p.kept = w.p.kept := by
  simp only [Work.testEnded]
  (repeat' split) <;> simp

@[simp] theorem Work.jobTests_kept (w : Work) (j : JobIx) :
    (w.jobTests j).p.kept = w.p.kept := by
  simp only [Work.jobTests]
  simp

@[simp] theorem Work.memberTests_kept (w : Work) (m : Option JobIx) :
    (w.memberTests m).p.kept = w.p.kept := by
  simp only [Work.memberTests]
  (repeat' split) <;> simp

@[simp] theorem Work.allJobTests_kept (w : Work) :
    (w.allJobTests).p.kept = w.p.kept := by
  unfold Work.allJobTests
  apply foldl_kept
  intros
  try dsimp only
  simp

@[simp] theorem Work.evalLags_kept (w : Work) :
    (w.evalLags).p.kept = w.p.kept := by
  unfold Work.evalLags
  apply foldl_kept
  intros
  try dsimp only
  simp

@[simp] theorem Work.placeCursor_kept (w : Work) (i : SlotIx) (j : JobIx) (n o : Nat) :
    (w.placeCursor i j n o).p.kept = w.p.kept := by
  simp only [Work.placeCursor]
  simp

@[simp] theorem Work.join_kept (w : Work) (i : SlotIx) (j : JobIx) (r : Nat) :
    (w.join i j r).p.kept = w.p.kept := by
  simp only [Work.join]
  simp

@[simp] theorem Work.becomeReady_kept (w : Work) (i : SlotIx) (j : JobIx) :
    (w.becomeReady i j).p.kept = w.p.kept := by
  simp only [Work.becomeReady]
  (repeat' split) <;> simp

@[simp] theorem Work.deferSlot_kept (w : Work) (i : SlotIx) :
    (w.deferSlot i).p.kept = w.p.kept := by
  simp only [Work.deferSlot]
  (repeat' split) <;> simp

@[simp] theorem Work.applyEnd_kept (w : Work) (i : SlotIx) :
    (w.applyEnd i).p.kept = w.p.kept := by
  simp only [Work.applyEnd]
  (repeat' split) <;> simp

@[simp] theorem Work.takeEnd_kept (w : Work) (i : SlotIx) (e : PendingEnd) :
    (w.takeEnd i e).p.kept = w.p.kept := by
  simp only [Work.takeEnd]
  (repeat' split) <;> simp

@[simp] theorem Work.enterAborting_kept (w : Work) (j : JobIx) (r : AbortReason) :
    (w.enterAborting j r).p.kept = w.p.kept := by
  simp only [Work.enterAborting, Work.testEnded_kept, Work.evalLag_kept]
  rw [foldl_kept]
  · simp [Job.definition]
  · intros; split <;> simp

@[simp] theorem Work.startLife_kept (w : Work) (i : SlotIx) :
    (w.startLife i).p.kept = w.p.kept := by
  simp only [Work.startLife]
  simp

@[simp] theorem Work.enterEmpty_kept (w : Work) (i : SlotIx) :
    (w.enterEmpty i).p.kept = w.p.kept := by
  simp only [Work.enterEmpty]
  simp

@[simp] theorem Work.detach_kept (w : Work) (i : SlotIx) :
    (w.detach i).p.kept = w.p.kept := by
  simp only [Work.detach]
  (repeat' split) <;> simp

@[simp] theorem Work.attachEmpty_kept (w : Work) (i : SlotIx) :
    (w.attachEmpty i).p.kept = w.p.kept := by
  simp only [Work.attachEmpty]
  (repeat' split) <;> simp

@[simp] theorem Work.attach_kept (w : Work) (i : SlotIx) :
    (w.attach i).p.kept = w.p.kept := by
  simp only [Work.attach]
  (repeat' split) <;> simp

@[simp] theorem Work.releaseAttach_kept (w : Work) (i : SlotIx) :
    (w.releaseAttach i).p.kept = w.p.kept := by
  simp only [Work.releaseAttach]
  (repeat' split) <;> simp

@[simp] theorem Work.loseService_kept (w : Work) (i : SlotIx) (r : Reason) :
    (w.loseService i r).p.kept = w.p.kept := by
  simp only [Work.loseService]
  (repeat' split) <;> simp

@[simp] theorem Work.judgeWaiting_kept (w : Work) :
    (w.judgeWaiting).p.kept = w.p.kept := by
  simp only [Work.judgeWaiting]
  split <;> rfl

@[simp] theorem Work.beginAttempt_kept (w : Work) (i : SlotIx) :
    (w.beginAttempt i).p.kept = w.p.kept := by
  simp only [Work.beginAttempt]
  simp

@[simp] theorem Work.attemptFailed_kept (w : Work) (i : SlotIx) :
    (w.attemptFailed i).p.kept = w.p.kept := by
  simp only [Work.attemptFailed]
  (repeat' split) <;> simp

@[simp] theorem Work.enterEnumerating_kept (w : Work) (i : SlotIx) :
    (w.enterEnumerating i).p.kept = w.p.kept := by
  simp only [Work.enterEnumerating]
  simp

@[simp] theorem Work.classCheck_kept (w : Work) (i : SlotIx) :
    (w.classCheck i).p.kept = w.p.kept := by
  simp only [Work.classCheck]
  (repeat' split) <;> simp

@[simp] theorem Work.takeIn_kept (w : Work) (i : SlotIx) (j : JobIx) :
    (w.takeIn i j).p.kept = w.p.kept := by
  simp only [Work.takeIn]
  simp

@[simp] theorem Work.admitOrIdle_kept (w : Work) (i : SlotIx) :
    (w.admitOrIdle i).p.kept = w.p.kept := by
  simp only [Work.admitOrIdle]
  (repeat' split) <;> simp

@[simp] theorem Work.filterDecision_kept (w : Work) (i : SlotIx) :
    (w.filterDecision i).p.kept = w.p.kept := by
  simp only [Work.filterDecision]
  (repeat' split) <;> simp

@[simp] theorem Work.admitAll_kept (w : Work) (j : JobIx) (is : List SlotIx) :
    (w.admitAll j is).p.kept = w.p.kept := by
  unfold Work.admitAll
  apply foldl_kept
  intros
  try dsimp only
  simp

@[simp] theorem Work.refreshAllLamps_kept (w : Work) :
    (w.refreshAllLamps).p.kept = w.p.kept := by
  unfold Work.refreshAllLamps
  apply foldl_kept
  intros
  try dsimp only
  simp

@[simp] theorem Work.settleNow_kept (w : Work) :
    (w.settleNow).p.kept = w.p.kept := by
  unfold Work.settleNow
  apply foldl_kept
  intros
  try dsimp only
  (repeat' split) <;> simp

@[simp] theorem Work.endMemberships_kept (w : Work) (j : JobIx) :
    (w.endMemberships j).p.kept = w.p.kept := by
  unfold Work.endMemberships
  apply foldl_kept
  intros
  try dsimp only
  (repeat' split) <;> simp

@[simp] theorem Work.joinAll_kept (w : Work) (j : JobIx) (js : List (SlotIx × Nat)) :
    (w.joinAll j js).p.kept = w.p.kept := by
  unfold Work.joinAll
  apply foldl_kept
  intros
  try dsimp only
  simp

@[simp] theorem Work.handlePublish_kept (w : Work) (j : JobIx) (tag : Half) (value : Word) :
    (w.handlePublish j tag value).p.kept = w.p.kept := by
  simp only [Work.handlePublish]
  (repeat' split) <;> simp [Job.publish, Job.definition]

@[simp] theorem Work.examinePublish_kept (w : Work) (j : JobIx) (field : Half × Word) :
    (w.examinePublish j field).p.kept = w.p.kept := by
  simp only [Work.examinePublish]
  split <;> simp [Job.definition]

@[simp] theorem Work.beginIntake_kept (w : Work) (j : JobIx) :
    (w.beginIntake j).p.kept = w.p.kept := by
  exact Work.modJob_kept w j (fun c => { c with intakeInFlight := true }) rfl

@[simp] theorem Work.clearIntake_kept (w : Work) (j : JobIx) :
    (w.clearIntake j).p.kept = w.p.kept := by
  exact Work.modJob_kept w j (fun c => { c with intakeInFlight := false }) rfl

@[simp] theorem Work.arbitrate_kept (w : Work) :
    (w.arbitrate).p.kept = w.p.kept := by
  simp only [Work.arbitrate]
  (repeat' split) <;> simp

@[simp] theorem Work.settleWaiting_kept (w : Work) (j : JobIx) (n : Nat) :
    (w.settleWaiting j n).p.kept = w.p.kept := by
  unfold Work.settleWaiting
  apply foldl_kept
  intros
  try dsimp only
  (repeat' split) <;> simp

@[simp] theorem Work.completeIntake_kept (w : Work) (j : JobIx) (n : Nat) (first : Bool) :
    (w.completeIntake j n first).p.kept = w.p.kept := by
  simp [Work.completeIntake, Job.definition]

@[simp] theorem Work.endIntake_kept (w : Work) (m : Memory) (t : Intake) :
    (w.endIntake m t).p.kept = w.p.kept := by
  simp only [Work.endIntake]
  (repeat' split) <;> simp

@[simp] theorem Work.finishIntake_kept (w : Work) (m : Memory) (t : Intake) (r : IntakeRead) :
    (w.finishIntake m t r).p.kept = w.p.kept := by
  simp only [Work.finishIntake]
  (repeat' split) <;> simp

@[simp] theorem Work.expireLag_kept (w : Work) (j : JobIx) :
    (w.expireLag j).p.kept = w.p.kept := by
  simp only [Work.expireLag, Work.jobTests_kept]
  rw [foldl_kept]
  · simp [Job.definition]
  · intros; simp

@[simp] theorem Work.countFailure_kept (w : Work) (i : SlotIx) :
    (w.countFailure i).p.kept = w.p.kept := by
  simp only [Work.countFailure]
  simp

@[simp] theorem Work.countedFailure_kept (w : Work) (i : SlotIx) (k : DataKind) (c : ResultClass) :
    (w.countedFailure i k c).p.kept = w.p.kept := by
  simp only [Work.countedFailure]
  (repeat' split) <;> simp

@[simp] theorem Work.notReadyResult_kept (w : Work) (i : SlotIx) :
    (w.notReadyResult i).p.kept = w.p.kept := by
  simp only [Work.notReadyResult]
  (repeat' split) <;> simp

@[simp] theorem Work.goodEffect_kept (w : Work) (i : SlotIx) (j : JobIx) (r : DataRequest) (a : DataAnswer) :
    (w.goodEffect i j r a).p.kept = w.p.kept := by
  simp only [Work.goodEffect]
  (repeat' split) <;> simp

@[simp] theorem Work.enterProbing_kept (w : Work) (i : SlotIx) (j : JobIx) :
    (w.enterProbing i j).p.kept = w.p.kept := by
  simp only [Work.enterProbing, Work.enterState_kept]
  rfl

@[simp] theorem Work.setProbe_kept (w : Work) (i : SlotIx) (q : ProbePosition) :
    (w.setProbe i q).p.kept = w.p.kept := by
  simp only [Work.setProbe]
  simp

@[simp] theorem Work.checkCapacity_kept (w : Work) (i : SlotIx) (j : JobIx) (a : DataAnswer) :
    (w.checkCapacity i j a).p.kept = w.p.kept := by
  simp only [Work.checkCapacity]
  (repeat' split) <;> simp

@[simp] theorem Work.scrubFrom_kept (w : Work) (i : SlotIx) (j : JobIx) (q : ProbePosition) (k : Nat) :
    (w.scrubFrom i j q k).p.kept = w.p.kept := by
  simp only [Work.scrubFrom]
  (repeat' split) <;> simp

@[simp] theorem Work.fakeCapacity_kept (w : Work) (i : SlotIx) (j : JobIx) (q : ProbePosition) :
    (w.fakeCapacity i j q).p.kept = w.p.kept := by
  simp only [Work.fakeCapacity]
  simp

@[simp] theorem Work.probeWritten_kept (w : Work) (i : SlotIx) (q : ProbePosition) :
    (w.probeWritten i q).p.kept = w.p.kept := by
  simp only [Work.probeWritten]
  (repeat' split) <;> simp

@[simp] theorem Work.probeJudged_kept (w : Work) (i : SlotIx) (j : JobIx) (q : ProbePosition) (intact : Bool) :
    (w.probeJudged i j q intact).p.kept = w.p.kept := by
  simp only [Work.probeJudged]
  (repeat' split) <;> simp

@[simp] theorem Work.finishWriting_kept (w : Work) (i : SlotIx) (j : JobIx) :
    (w.finishWriting i j).p.kept = w.p.kept := by
  simp only [Work.finishWriting]
  (repeat' split) <;> simp

@[simp] theorem Work.chunkEqual_kept (w : Work) (i : SlotIx) (j : JobIx) (n : Nat) :
    (w.chunkEqual i j n).p.kept = w.p.kept := by
  simp only [Work.chunkEqual]
  (repeat' split) <;> simp

@[simp] theorem Work.chunkAgain_kept (w : Work) (i : SlotIx) (j : JobIx) (n : Nat) :
    (w.chunkAgain i j n).p.kept = w.p.kept := by
  simp only [Work.chunkAgain]
  simp

@[simp] theorem Work.compareChunk_kept (w : Work) (m : Memory) (i : SlotIx) (j : JobIx) (digestError : Bool) :
    (w.compareChunk m i j digestError).p.kept = w.p.kept := by
  simp only [Work.compareChunk]
  (repeat' split) <;> simp

@[simp] theorem Work.goodProceed_kept (w : Work) (m : Memory) (i : SlotIx) (j : JobIx) (r : DataRequest) (a : DataAnswer) (digestError : Bool) :
    (w.goodProceed m i j r a digestError).p.kept = w.p.kept := by
  simp only [Work.goodProceed]
  (repeat' split) <;> simp

@[simp] theorem Work.dataResult_kept (w : Work) (m : Memory) (i : SlotIx) (j : JobIx) (r : DataRequest) (c : ResultClass) (a : DataAnswer) (digestError : Bool) :
    (w.dataResult m i j r c a digestError).p.kept = w.p.kept := by
  simp only [Work.dataResult]
  (repeat' split) <;> simp

@[simp] theorem Work.lastResult_kept (w : Work) (i : SlotIx) (j : JobIx) (r : DataRequest) (c : ResultClass) (a : DataAnswer) :
    (w.lastResult i j r c a).p.kept = w.p.kept := by
  simp only [Work.lastResult]
  (repeat' split) <;> simp

@[simp] theorem Work.dataEnd_kept (w : Work) (m : Memory) (i : SlotIx) (r : DataRequest) (c : ResultClass) (a : DataAnswer) (digestError : Bool) :
    (w.dataEnd m i r c a digestError).p.kept = w.p.kept := by
  simp only [Work.dataEnd]
  (repeat' split) <;> simp

@[simp] theorem Work.lampEnd_kept (w : Work) (i : SlotIx) (c : Lamp) (good : Bool) :
    (w.lampEnd i c good).p.kept = w.p.kept := by
  simp only [Work.lampEnd]
  (repeat' split) <;> simp

@[simp] theorem Work.requestPower_kept (w : Work) (b : LaneIx) (ps : List PortIx) :
    (w.requestPower b ps).p.kept = w.p.kept := by
  unfold Work.requestPower
  apply foldl_kept
  intros
  try dsimp only
  simp

@[simp] theorem Work.takeGroup_kept (w : Work) (b : LaneIx) :
    (w.takeGroup b).p.kept = w.p.kept := by
  simp only [Work.takeGroup, Work.requestPower_kept]
  exact Work.modBoard_kept w b _ rfl

@[simp] theorem Work.requestWaiting_kept (w : Work) (b : LaneIx) :
    (w.requestWaiting b).p.kept = w.p.kept := by
  simp only [Work.requestWaiting, Work.requestPower_kept]
  exact Work.modBoard_kept w b _ rfl

@[simp] theorem Work.powerOn_kept (w : Work) (i : SlotIx) :
    (w.powerOn i).p.kept = w.p.kept := by
  unfold Work.powerOn
  split
  · simp
  · exact Work.modBoard_kept w _ _ rfl
  · exact Work.modBoard_kept w _ _ rfl
  · rfl

@[simp] theorem Work.endStaged_kept (w : Work) (b : LaneIx) :
    (w.endStaged b).p.kept = w.p.kept := by
  exact Work.modBoard_kept w b _ rfl

@[simp] theorem Work.laneUpNotice_kept (w : Work) (b : LaneIx) :
    (w.laneUpNotice b).p.kept = w.p.kept := by
  simp only [Work.laneUpNotice]
  (repeat' split) <;> simp [Board.supply]

@[simp] theorem Work.clearWaiting_kept (w : Work) (b : LaneIx) :
    (w.clearWaiting b).p.kept = w.p.kept := by
  unfold Work.clearWaiting
  apply foldl_kept
  intros
  try dsimp only
  simp

@[simp] theorem Work.laneDownNotice_kept (w : Work) (b : LaneIx) :
    (w.laneDownNotice b).p.kept = w.p.kept := by
  simp only [Work.laneDownNotice, Work.clearWaiting_kept]
  exact Work.modBoard_kept w b _ rfl

@[simp] theorem Work.disownPower_kept (w : Work) (i : SlotIx) :
    (w.disownPower i).p.kept = w.p.kept := by
  exact Work.modLane_kept w _ _ rfl

@[simp] theorem Work.freeButPowerOn_kept (w : Work) (i : SlotIx) :
    (w.freeButPowerOn i).p.kept = w.p.kept := by
  exact Work.modLane_kept w _ _ rfl

@[simp] theorem Work.setPort_kept (w : Work) (i : SlotIx) (x : PortPower) :
    (w.setPort i x).p.kept = w.p.kept := by
  simp [Work.setPort, Board.supply]

@[simp] theorem Work.lockPort_kept (w : Work) (i : SlotIx) :
    (w.lockPort i).p.kept = w.p.kept := by
  simp [Work.lockPort]

@[simp] theorem Work.overcurrent_kept (w : Work) (i : SlotIx) :
    (w.overcurrent i).p.kept = w.p.kept := by
  simp only [Work.overcurrent]
  (repeat' split) <;> simp

@[simp] theorem Work.abandonAll_kept (w : Work) (l : LaneIx) :
    (w.abandonAll l).p.kept = w.p.kept := by
  simp only [Work.abandonAll]
  simp

@[simp] theorem Work.discardLamps_kept (w : Work) (l : LaneIx) :
    (w.discardLamps l).p.kept = w.p.kept := by
  unfold Work.discardLamps
  apply foldl_kept
  intros
  try dsimp only
  simp

@[simp] theorem Work.loseAll_kept (w : Work) (l : LaneIx) (r : Reason) :
    (w.loseAll l r).p.kept = w.p.kept := by
  simp only [Work.loseAll]
  rw [foldl_kept _ (fun w j => by simp), foldl_kept _ (fun w i => by simp)]

@[simp] theorem Work.heldOvercurrents_kept (w : Work) (l : LaneIx) (held : BitVec 16) :
    (w.heldOvercurrents l held).p.kept = w.p.kept := by
  unfold Work.heldOvercurrents
  apply foldl_kept
  intros
  try dsimp only
  simp

@[simp] theorem Work.portScan_kept (w : Work) (l : LaneIx) (connected : BitVec 16) :
    (w.portScan l connected).p.kept = w.p.kept := by
  unfold Work.portScan
  apply foldl_kept
  intros
  try dsimp only
  (repeat' split) <;> simp

@[simp] theorem Work.unknownLamps_kept (w : Work) (l : LaneIx) :
    (w.unknownLamps l).p.kept = w.p.kept := by
  unfold Work.unknownLamps
  apply foldl_kept
  intros
  try dsimp only
  simp

@[simp] theorem Work.occupy_kept (w : Work) (l : LaneIx) (k : Fin 4) (port : PortIx) (t : Transaction) (timeout : Nat) :
    (w.occupy l k port t timeout).p.kept = w.p.kept := by
  simp only [Work.occupy]
  simp

@[simp] theorem Work.grantControl_kept (w : Work) (l : LaneIx) (k : Fin 4) (r : ReadyControl) :
    (w.grantControl l k r).p.kept = w.p.kept := by
  simp only [Work.grantControl]
  (repeat' split) <;> simp

@[simp] theorem Work.grantData_kept (w : Work) (l : LaneIx) (k : Fin 4) (c : Candidate) :
    (w.grantData l k c).p.kept = w.p.kept := by
  simp only [Work.grantData]
  simp

@[simp] theorem Work.recordIdentity_kept (w : Work) (i : SlotIx) (a : ControlAnswer) :
    (w.recordIdentity i a).p.kept = w.p.kept := by
  simp only [Work.recordIdentity]
  (repeat' split) <;> simp

@[simp] theorem Work.nextStep_kept (w : Work) (i : SlotIx) (k : ControlKind) (a : ControlAnswer) :
    (w.nextStep i k a).p.kept = w.p.kept := by
  simp only [Work.nextStep]
  (repeat' split) <;> simp

@[simp] theorem Work.stickControl_kept (w : Work) (i : SlotIx) (k : ControlKind) (a : ControlAnswer) (good : Bool) :
    (w.stickControl i k a good).p.kept = w.p.kept := by
  simp only [Work.stickControl]
  (repeat' split) <;> simp

@[simp] theorem Work.lastControl_kept (w : Work) (i : SlotIx) (a : ControlAnswer) (good : Bool) :
    (w.lastControl i a good).p.kept = w.p.kept := by
  simp only [Work.lastControl]
  (repeat' split) <;> simp

@[simp] theorem Work.powerEnd_kept (w : Work) (i : SlotIx) (good disowned : Bool) :
    (w.powerEnd i good disowned).p.kept = w.p.kept := by
  simp only [Work.powerEnd]
  (repeat' split) <;> simp

@[simp] theorem Work.controlEnd_kept (w : Work) (i : SlotIx) (k : ControlKind) (a : ControlAnswer) (good disowned : Bool) :
    (w.controlEnd i k a good disowned).p.kept = w.p.kept := by
  simp only [Work.controlEnd]
  (repeat' split) <;> simp

@[simp] theorem Work.healthGood_kept (w : Work) (l : LaneIx) (good : Bool) :
    (w.healthGood l good).p.kept = w.p.kept := by
  simp only [Work.healthGood]
  (repeat' split) <;> simp

@[simp] theorem Work.healthExpired_kept (w : Work) (l : LaneIx) :
    (w.healthExpired l).p.kept = w.p.kept := by
  simp only [Work.healthExpired]
  simp

@[simp] theorem Work.dataExpired_kept (w : Work) (m : Memory) (i : SlotIx) (r : DataRequest) :
    (w.dataExpired m i r).p.kept = w.p.kept := by
  simp only [Work.dataExpired]
  (repeat' split) <;> simp

end Sys2Proof.Machine
end

