-- ==== Sys2Proof/Laws/Memory.lean ====
section
/-! SUPPORT. The image memory: every operation keeps the canonical form, a byte written reads back, and
every other byte is as before. -/

namespace Sys2Proof.Machine

/-! ### The canonical form -/

/-- A list of bytes all at or above an offset stays so under a write at or above it. -/
theorem Memory.write_bound (m : Memory) (lo x : Nat) (v : Byte) (h : ∀ c ∈ m, lo ≤ c.1)
    (hx : lo ≤ x) : ∀ c ∈ Memory.write m x v, lo ≤ c.1 := by
  induction m with
  | nil => intro c hc; simp only [Memory.write] at hc; split at hc <;> simp_all
  | cons y m ih =>
    obtain ⟨a, b⟩ := y
    have ha : lo ≤ a := h (a, b) (by simp)
    have hm : ∀ c ∈ m, lo ≤ c.1 := fun c hc => h c (by simp [hc])
    intro c hc
    simp only [Memory.write] at hc
    split at hc
    · split at hc
      · exact h c hc
      · simp only [List.mem_cons] at hc
        rcases hc with rfl | rfl | hc
        · exact hx
        · exact ha
        · exact hm c hc
    · split at hc
      · split at hc
        · exact hm c hc
        · simp only [List.mem_cons] at hc
          rcases hc with rfl | hc
          · exact hx
          · exact hm c hc
      · simp only [List.mem_cons] at hc
        rcases hc with rfl | hc
        · exact ha
        · exact ih hm c hc

/-- A write keeps the canonical form. -/
theorem Memory.write_wf (m : Memory) (x : Nat) (v : Byte) (h : m.wf) : (Memory.write m x v).wf := by
  induction m with
  | nil =>
    simp only [Memory.write]
    split
    · exact h
    · refine ⟨by simp, ?_⟩; intro c hc; simp at hc; subst hc; assumption
  | cons y m ih =>
    obtain ⟨a, b⟩ := y
    obtain ⟨hs, hv⟩ := h
    obtain ⟨h1, h2⟩ := List.pairwise_cons.mp hs
    have hm : Memory.wf m := ⟨h2, fun c hc => hv c (by simp [hc])⟩
    simp only [Memory.write]
    split
    · rename_i hlt
      split
      · exact ⟨hs, hv⟩
      · refine ⟨List.pairwise_cons.mpr ⟨?_, hs⟩, ?_⟩
        · intro c hc
          rcases List.mem_cons.mp hc with rfl | hc
          · exact hlt
          · exact Nat.lt_trans hlt (h1 c hc)
        · intro c hc
          rcases List.mem_cons.mp hc with rfl | hc
          · assumption
          · exact hv c hc
    · split
      · rename_i he
        subst he
        split
        · exact hm
        · refine ⟨List.pairwise_cons.mpr ⟨fun c hc => h1 c hc, h2⟩, ?_⟩
          intro c hc
          rcases List.mem_cons.mp hc with rfl | hc
          · assumption
          · exact hm.2 c hc
      · rename_i hnl hne
        have hw := ih hm
        refine ⟨List.pairwise_cons.mpr ⟨?_, hw.1⟩, ?_⟩
        · intro c hc
          exact Memory.write_bound m (a + 1) x v (fun c hc => h1 c hc) (by omega) c hc
        · intro c hc
          rcases List.mem_cons.mp hc with rfl | hc
          · exact hv _ (by simp)
          · exact hw.2 c hc

/-- A run of bytes written keeps the canonical form. -/
theorem Memory.writeBytes_wf (bs : List Byte) (m : Memory) (a : Nat) (h : m.wf) :
    (Memory.writeBytes m a bs).wf := by
  induction bs generalizing m a with
  | nil => exact h
  | cons b bs ih => exact ih _ _ (Memory.write_wf m a b h)

/-- Host writes keep the canonical form. -/
theorem Memory.apply_wf (ws : List Host.Cell) (m : Memory) (h : m.wf) : (m.apply ws).wf := by
  induction ws generalizing m with
  | nil => exact h
  | cons w ws ih => exact ih _ (Memory.write_wf m w.1 w.2 h)

/-- Unit writes keep the canonical form. -/
theorem Memory.applyUnits_wf (us : List (Nat × List Byte)) (m : Memory) (h : m.wf) :
    (m.applyUnits us).wf := by
  induction us generalizing m with
  | nil => exact h
  | cons u us ih => exact ih _ (Memory.writeBytes_wf u.2 m u.1 h)

/-! ### Reading back -/

/-- A write leaves every other byte as it was. -/
theorem Memory.read_write_ne (m : Memory) (x y : Nat) (v : Byte) (h : y ≠ x) :
    Memory.read (Memory.write m x v) y = Memory.read m y := by
  induction m with
  | nil => simp only [Memory.write]; split <;> simp [Memory.read, h]
  | cons z m ih =>
    obtain ⟨a, b⟩ := z
    simp only [Memory.write]
    split
    · split <;> simp [Memory.read, h]
    · split
      · rename_i he; subst he; split <;> simp [Memory.read, h]
      · simp only [Memory.read]; split <;> simp [ih]

/-- An offset below every listed one reads as the unlisted byte. -/
theorem Memory.read_below (m : Memory) (x : Nat) (h : ∀ c ∈ m, x < c.1) :
    Memory.read m x = Config.unlistedByte := by
  induction m with
  | nil => rfl
  | cons z m ih =>
    obtain ⟨a, b⟩ := z
    have : x < a := h (a, b) (by simp)
    have hne : x ≠ a := by omega
    simp only [Memory.read, if_neg hne]
    exact ih (fun c hc => h c (by simp [hc]))

/-- A byte written reads back. -/
theorem Memory.read_write_same (m : Memory) (x : Nat) (v : Byte) (h : m.wf) :
    Memory.read (Memory.write m x v) x = v := by
  induction m with
  | nil => simp only [Memory.write]; split <;> simp_all [Memory.read]
  | cons z m ih =>
    obtain ⟨a, b⟩ := z
    obtain ⟨h1, h2⟩ := List.pairwise_cons.mp h.1
    have hm : Memory.wf m := ⟨h2, fun c hc => h.2 c (by simp [hc])⟩
    simp only [Memory.write]
    split
    · rename_i hlt
      split
      · rename_i hv
        rw [hv]
        apply Memory.read_below
        intro c hc
        rcases List.mem_cons.mp hc with rfl | hc
        · exact hlt
        · exact Nat.lt_trans hlt (h1 c hc)
      · simp [Memory.read]
    · split
      · rename_i he
        subst he
        split
        · rename_i hv
          rw [hv]
          exact Memory.read_below m x (fun c hc => h1 c hc)
        · simp [Memory.read]
      · rename_i hne
        simp only [Memory.read, if_neg hne]
        exact ih hm

/-- A run of bytes leaves every byte outside it as it was. -/
theorem Memory.read_writeBytes_outside (bs : List Byte) (m : Memory) (a x : Nat)
    (h : x < a ∨ a + bs.length ≤ x) :
    Memory.read (Memory.writeBytes m a bs) x = Memory.read m x := by
  induction bs generalizing m a with
  | nil => rfl
  | cons b bs ih =>
    simp only [Memory.writeBytes, List.length_cons] at *
    rw [ih _ (a + 1) (by omega), Memory.read_write_ne _ _ _ _ (by omega)]

/-- A run of bytes reads back. -/
theorem Memory.readBytes_writeBytes (bs : List Byte) (m : Memory) (a : Nat) (h : m.wf) :
    Memory.readBytes (Memory.writeBytes m a bs) a bs.length = bs := by
  induction bs generalizing m a with
  | nil => rfl
  | cons b bs ih =>
    simp only [Memory.writeBytes, List.length_cons, Memory.readBytes]
    rw [ih _ _ (Memory.write_wf m a b h), Memory.read_writeBytes_outside bs _ _ _ (by omega),
      Memory.read_write_same m a b h]

/-- Unit writes leave every byte outside all of them as it was. -/
theorem Memory.read_applyUnits_outside (us : List (Nat × List Byte)) (m : Memory) (x : Nat)
    (h : ∀ u ∈ us, x < u.1 ∨ u.1 + u.2.length ≤ x) :
    Memory.read (m.applyUnits us) x = Memory.read m x := by
  induction us generalizing m with
  | nil => rfl
  | cons u us ih =>
    have : Memory.applyUnits m (u :: us) = (Memory.writeBytes m u.1 u.2).applyUnits us := rfl
    rw [this, ih _ (fun v hv => h v (by simp [hv])),
      Memory.read_writeBytes_outside _ _ _ _ (h u (by simp))]

/-- Unit writes made one list after the other. -/
theorem Memory.applyUnits_append (us vs : List (Nat × List Byte)) (m : Memory) :
    m.applyUnits (us ++ vs) = (m.applyUnits us).applyUnits vs := by
  simp [Memory.applyUnits, List.foldl_append]

/-- Bytes that read alike read alike as a run. -/
theorem Memory.readBytes_congr (m m' : Memory) (a n : Nat)
    (h : ∀ x, a ≤ x → x < a + n → Memory.read m x = Memory.read m' x) :
    Memory.readBytes m a n = Memory.readBytes m' a n := by
  induction n generalizing a with
  | zero => rfl
  | succ n ih =>
    simp only [Memory.readBytes]
    rw [h a (by omega) (by omega), ih (a + 1) (fun x h1 h2 => h x (by omega) (by omega))]

/-- A unit written and not overwritten by later ones reads back. -/
theorem Memory.readBytes_applyUnits (us vs : List (Nat × List Byte)) (a : Nat) (bs : List Byte)
    (m : Memory) (h : m.wf)
    (hv : ∀ v ∈ vs, v.1 + v.2.length ≤ a ∨ a + bs.length ≤ v.1) :
    Memory.readBytes (m.applyUnits (us ++ (a, bs) :: vs)) a bs.length = bs := by
  have hcons : us ++ (a, bs) :: vs = (us ++ [(a, bs)]) ++ vs := by simp
  rw [hcons, Memory.applyUnits_append]
  have hin : ∀ x, a ≤ x → x < a + bs.length →
      Memory.read ((m.applyUnits (us ++ [(a, bs)])).applyUnits vs) x =
        Memory.read (m.applyUnits (us ++ [(a, bs)])) x := by
    intro x h1 h2
    apply Memory.read_applyUnits_outside
    intro v hv'
    have := hv v hv'
    omega
  rw [Memory.readBytes_congr _ _ _ _ hin, Memory.applyUnits_append]
  exact Memory.readBytes_writeBytes bs _ a (Memory.applyUnits_wf us m h)

/-! ### Numbers as bytes -/

@[simp] theorem length_leBytes (n v : Nat) : (leBytes n v).length = n := by
  induction n generalizing v with
  | zero => rfl
  | succ n ih => simp [leBytes, ih]

/-- The bytes of a number that fits spell it. -/
theorem leValue_leBytes (n v : Nat) (h : v < 256 ^ n) : leValue (leBytes n v) = v := by
  induction n generalizing v with
  | zero => simp [leBytes, leValue]; omega
  | succ n ih =>
    have h' : v / 256 < 256 ^ n := by
      rw [Nat.pow_succ] at h
      exact Nat.div_lt_of_lt_mul (by omega)
    simp only [leBytes, leValue, ih _ h', BitVec.toNat_ofNat]
    omega

end Sys2Proof.Machine
end

