-- ==== Sys2Proof/Laws/Commands.lean ====
section
/-! SUPPORT. What running a command can answer: the four ways a meaning is built, and the shape of every
next state. -/

namespace Sys2Proof.Machine

/-! ### The ways a meaning is built -/

theorem run_next (s : State) (g : Work → Work) : run s g = .next (commit s (g (Work.start s))) := rfl

theorem guarded_true {b : Bool} (s : State) (g : Work → Work) (h : b = true) :
    guarded b s g = .next (commit s (g (Work.start s))) := by
  simp [guarded, h, run]

theorem guarded_false {b : Bool} (s : State) (g : Work → Work) (h : b = false) :
    guarded b s g = .next s := by
  simp [guarded, h]

theorem hosted_fit {s : State} {ws : List Host.Cell}
    (g : State → Host.Outcome State Fault Refusal) (h : hostWritesFit s.part.straps ws = true) :
    hosted s ws g = g (s.hostWrote ws) := by
  simp [hosted, h, State.hostWrote]

theorem hosted_unfit {s : State} {ws : List Host.Cell}
    (g : State → Host.Outcome State Fault Refusal) (h : hostWritesFit s.part.straps ws = false) :
    hosted s ws g = .fault .outsideWindow := by
  simp [hosted, h]

theorem onCommand_run {s : State} {code : Half} {c : CommandCell} (g : CommandCell → Work → Work)
    (h : s.executes code c) :
    onCommand s code g = .next (commit s (g c (Work.start s))) := by
  simp [onCommand, Part.executing, h.1, h.2, run]

@[simp] theorem hostWrote_part (s : State) (ws : List Host.Cell) : (s.hostWrote ws).part = s.part :=
  rfl

@[simp] theorem hostWrote_port (s : State) (ws : List Host.Cell) : (s.hostWrote ws).port = s.port :=
  rfl

@[simp] theorem hostWrote_mem (s : State) (ws : List Host.Cell) :
    (s.hostWrote ws).mem = s.mem.apply ws := rfl

@[simp] theorem hostWrote_pending (s : State) (ws : List Host.Cell) :
    (s.hostWrote ws).pending = s.pending := rfl

@[simp] theorem hostWrote_nil (s : State) : s.hostWrote [] = s := rfl

/-! ### Work that hands nothing over -/

/-- Committing work that hands nothing over changes the part alone. -/
theorem commit_silent (s : State) (w : Work) (h : w.out = .none) :
    commit s w = { s with part := w.p } := by
  obtain ⟨p, out⟩ := w
  subst h
  cases hp : p.reports <;>
    simp [commit, Work.units, Work.statusUnits, Work.clockUnit, Work.causesAfter, Out.none, Memory.applyUnits, hp]

/-- Committing no work at all changes nothing. -/
theorem commit_start (s : State) : commit s (Work.start s) = s := by
  rw [commit_silent s _ rfl]; rfl

/-! ### The shape of a next state -/

/-- A state that a command's work leaves: nothing, or work committed on the host-written state, possibly
with the deferred causes taken over. -/
inductive Left (s : State) : State → Prop where
  | same : Left s s
  | work (w : Work) : Left s (commit s w)
  | enabled (w : Work) (h : w.out.now &&& s.port.deferred = s.port.deferred) :
      Left s (commit { s with port := { s.port with deferred := 0 } } w)

theorem left_run (s : State) (g : Work → Work) {t : State} (h : run s g = .next t) : Left s t := by
  cases h; exact .work _

theorem left_guarded (b : Bool) (s : State) (g : Work → Work) {t : State}
    (h : guarded b s g = .next t) : Left s t := by
  unfold guarded at h
  split at h
  · exact left_run s g h
  · cases h; exact .same

theorem left_onCommand (s : State) (code : Half) (g : CommandCell → Work → Work) {t : State}
    (h : onCommand s code g = .next t) : Left s t := by
  unfold onCommand at h
  split at h
  · cases h; exact .same
  · exact left_run s _ h

theorem left_scanRead (s : State) (r : ScanRead) (error : Bool) (act : Work → Work) {t : State}
    (h : scanRead s r error act = .next t) : Left s t := by
  unfold scanRead at h
  split at h
  · split at h
    · exact left_run s _ h
    · cases h; exact .same
  · split at h
    · exact left_run s _ h
    · cases h; exact .same
  · cases h; exact .same

theorem left_hosted (s : State) (ws : List Host.Cell)
    (g : State → Host.Outcome State Fault Refusal) {t : State}
    (hg : ∀ s', g s' = .next t → Left s' t) (h : hosted s ws g = .next t) :
    Left (s.hostWrote ws) t := by
  unfold hosted at h
  split at h
  · exact hg _ h
  · cases h

/-- A fold of operations that keep a cause set keeps it. -/
theorem foldl_now {α : Type} (f : Work → α → Work) (h : ∀ w a, (f w a).out.now = w.out.now)
    (as : List α) (w : Work) : (as.foldl f w).out.now = w.out.now := by
  induction as generalizing w with
  | nil => rfl
  | cons a as ih => rw [List.foldl_cons, ih, h]

@[simp] theorem Work.ramp_now (w : Work) (b : LaneIx) : (w.ramp b).out.now = w.out.now := rfl

@[simp] theorem Work.rampAll_now (w : Work) : w.rampAll.out.now = w.out.now := by
  unfold Work.rampAll
  apply foldl_now
  intros
  split <;> simp

@[simp] theorem Work.evalLag_now (w : Work) (j : JobIx) : (w.evalLag j).out.now = w.out.now := by
  simp only [Work.evalLag]
  split <;> simp

@[simp] theorem Work.evalLags_now (w : Work) : w.evalLags.out.now = w.out.now := by
  unfold Work.evalLags
  apply foldl_now
  intros
  simp

@[simp] theorem Work.judgeWaiting_now (w : Work) : w.judgeWaiting.out.now = w.out.now := by
  simp only [Work.judgeWaiting]
  split <;> rfl

@[simp] theorem Work.startEngine_now (w : Work) (d : BitVec 11) :
    (w.startEngine d).out.now = d := by
  simp [Work.startEngine, Work.requestScan]

/-- Every command but the resets and the two cause register writes leaves work committed on the state
with its host writes. -/
theorem exec_left (c : Instr) (s t : State) (hr : isReset c = false)
    (hc : ∀ v, c ≠ .causeClear v) (he : ∀ v, c ≠ .causeEnableWrite v) (h : exec c s = .next t) :
    Left (s.hostWrote c.host) t := by
  cases c
  case powerOnReset => cases hr
  case pinReset => cases hr
  case softReset => cases hr
  case causeClear v => exact absurd rfl (hc v)
  case causeEnableWrite v => exact absurd rfl (he v)
  case registerWrite => cases h; exact .same
  case enable =>
    simp only [exec, execEnable] at h
    split at h
    · cases h; exact .same
    · have h' := Host.Outcome.next.inj h
      rw [← h']
      exact Left.enabled (s := s.hostWrote []) _ (by simp)
  case quiesce =>
    simp only [exec, execQuiesce] at h
    split at h
    · exact left_run _ _ h
    · cases h; exact .same
  case attention => exact left_hosted _ _ _ (fun _ => left_guarded _ _ _) h
  case commandCountRead => exact left_hosted _ _ _ (fun _ => left_scanRead _ _ _ _) h
  case publishFieldRead => exact left_hosted _ _ _ (fun _ => left_scanRead _ _ _ _) h
  case consumedCountRead => exact left_hosted _ _ _ (fun _ => left_scanRead _ _ _ _) h
  case settingsRecordReadDone =>
    simp only [exec, execSettingsRecordReadDone, Instr.host] at h ⊢
    refine left_hosted _ _ _ (fun s' h => ?_) h
    split at h
    · exact left_run _ _ h
    · cases h; exact .same
  case outcomeListChangeJudge =>
    simp only [exec, execOutcomeListChangeJudge] at h
    split at h
    · exact left_guarded _ _ _ h
    · cases h; exact .same
  case unknownCommand =>
    simp only [exec, execUnknownCommand] at h
    split at h
    · cases h; exact .same
    · exact left_run _ _ h
  case jobRecordReadDone =>
    simp only [exec, execJobRecordReadDone, Instr.host] at h ⊢
    refine left_hosted _ _ _ (fun s' h => ?_) h
    split at h
    · exact left_run _ _ h
    · cases h; exact .same
  case extentEntryRead =>
    simp only [exec, execExtentEntryRead, Instr.host] at h ⊢
    refine left_hosted _ _ _ (fun s' h => ?_) h
    split at h
    · exact left_run _ _ h
    · cases h; exact .same
  case filterRecordReadDone =>
    simp only [exec, execFilterRecordReadDone, Instr.host] at h ⊢
    refine left_hosted _ _ _ (fun s' h => ?_) h
    split at h
    · exact left_run _ _ h
    · cases h; exact .same
  case intakeDone =>
    simp only [exec, execIntakeDone, Instr.host] at h ⊢
    refine left_hosted _ _ _ (fun s' h => ?_) h
    split at h
    · cases h; exact .same
    · exact left_guarded _ _ _ h
  case commandSnapshotReturn => exact left_hosted _ _ _ (fun _ => left_guarded _ _ _) h
  case laneGrant l =>
    simp only [exec, execLaneGrant] at h
    split at h
    · split at h
      · cases h; exact .same
      · split at h
        · exact left_run _ _ h
        · split at h
          · exact left_run _ _ h
          · cases h; exact .same
    · cases h; exact .same
  case transactionCompletion =>
    simp only [exec, execTransactionCompletion, Instr.host] at h ⊢
    refine left_hosted _ _ _ (fun s' h => ?_) h
    split at h
    · cases h; exact .same
    · split at h
      · cases h; exact .same
      · cases h; exact .work _
  case transactionTimerExpiry =>
    simp only [exec, execTransactionTimerExpiry] at h
    split at h
    · cases h; exact .same
    · exact left_guarded _ _ _ h
  case lateAnswer =>
    simp only [exec, execLateAnswer] at h
    split at h
    · cases h; exact .same
    · exact left_run _ _ h
  case bringUpExchangeEnd =>
    simp only [exec, execBringUpExchangeEnd] at h
    split at h
    · cases h; exact .same
    · exact left_run _ _ h
  case rebuildExchangeEnd =>
    simp only [exec, execRebuildExchangeEnd] at h
    split at h
    · cases h; exact .same
    · exact left_run _ _ h
  case conversionStart =>
    simp only [exec, execConversionStart] at h
    split at h
    · split at h
      · cases h; exact .same
      · exact left_run _ _ h
    · cases h; exact .same
  case conversionDone =>
    simp only [exec, execConversionDone] at h
    split at h
    · cases h; exact .same
    · exact left_run _ _ h
  case outcomeRecordWriteDone =>
    simp only [exec, execOutcomeRecordWriteDone] at h
    split at h
    · cases h; exact .same
    · exact left_run _ _ h
  case copyDataReadError =>
    simp only [exec, execCopyDataReadError] at h
    split at h
    · cases h; exact .same
    · exact left_run _ _ h
  case blinkPhaseToggle => exact left_run _ _ h
  case engineQuiesced => exact left_guarded _ _ _ h
  case scanIntervalExpiry => exact left_guarded _ _ _ h
  case intakeStart => exact left_guarded _ _ _ h
  case jobPaused => exact left_guarded _ _ _ h
  case jobEnded => exact left_guarded _ _ _ h
  case passEnd => exact left_guarded _ _ _ h
  case lagHoldTimerExpiry => exact left_guarded _ _ _ h
  case pendingEndApply => exact left_guarded _ _ _ h
  case attachNotice => exact left_guarded _ _ _ h
  case detachNotice => exact left_guarded _ _ _ h
  case overcurrentNotice => exact left_guarded _ _ _ h
  case hubLoss => exact left_guarded _ _ _ h
  case attachRelease => exact left_guarded _ _ _ h
  case settleTimerExpiry => exact left_guarded _ _ _ h
  case backoffTimerExpiry => exact left_guarded _ _ _ h
  case retryWaitExpiry => exact left_guarded _ _ _ h
  case bringUpStart => exact left_guarded _ _ _ h
  case powerGroupIntervalExpiry => exact left_guarded _ _ _ h
  case outcomeRecordWriteStart => exact left_guarded _ _ _ h
  all_goals exact left_onCommand _ _ _ h

/-- Work committed keeps a canonical memory canonical. -/
theorem commit_wf (s : State) (w : Work) (h : s.wf) : (commit s w).wf :=
  Memory.applyUnits_wf _ _ h

theorem hostWrote_wf (s : State) (ws : List Host.Cell) (h : s.wf) : (s.hostWrote ws).wf :=
  Memory.apply_wf _ _ h

theorem left_wf {s t : State} (h : s.wf) (hl : Left s t) : t.wf := by
  cases hl
  · exact h
  · exact commit_wf _ _ h
  · exact commit_wf _ _ h

theorem left_pending {s t : State} (hl : Left s t) : t.pending = s.pending := by
  cases hl <;> rfl

end Sys2Proof.Machine
end

