-- ==== Sys2Proof/Laws/Ready.lean ====
section
/-! SUPPORT. The order of ready CONTROL requests (R130): what `joinReady` does to a list, and that the
operations of a command leave the lanes it found as it found them; the power on requests of a board, and
what an exchange of a bring-up holds. -/

namespace Sys2Proof.Machine

theorem keptReady_append (old fresh : List ReadyControl) :
    keptReady old (old ++ fresh) = old.length := by
  induction old with
  | nil => rfl
  | cons o os ih => simp [keptReady, ih]

theorem mem_insertByPort (r x : ReadyControl) (l : List ReadyControl) :
    x ∈ insertByPort r l ↔ x = r ∨ x ∈ l := by
  induction l with
  | nil => simp [insertByPort]
  | cons y ys ih =>
    simp only [insertByPort]
    split
    · simp
    · simp only [List.mem_cons, ih, or_left_comm]

theorem insertByPort_last (r : ReadyControl) (l : List ReadyControl) (h : ∀ x ∈ l, x.port ≤ r.port) :
    insertByPort r l = l ++ [r] := by
  induction l with
  | nil => rfl
  | cons y ys ih =>
    have hy : ¬ r.port < y.port := Nat.not_lt.mpr (h y (by simp))
    simp only [insertByPort, if_neg hy, List.cons_append, ih (fun x hx => h x (by simp [hx]))]

/-- The requests after one has joined: that one, and those that were there. -/
@[simp] theorem mem_joinReady (before now : List ReadyControl) (r x : ReadyControl) :
    x ∈ joinReady before now r ↔ x = r ∨ x ∈ now := by
  have h : x ∈ now ↔ x ∈ now.take (keptReady before now) ∨ x ∈ now.drop (keptReady before now) := by
    rw [← List.mem_append, List.take_append_drop]
  simp only [joinReady, List.mem_append, mem_insertByPort, h, or_left_comm]

/-- The first request that a command makes ready stands last. -/
@[simp] theorem joinReady_self (old : List ReadyControl) (r : ReadyControl) :
    joinReady old old r = old ++ [r] := by
  have h := keptReady_append old []
  rw [List.append_nil] at h
  simp [joinReady, h, insertByPort]

/-- A request of no lower port than those the command has made ready stands last. -/
theorem joinReady_append (old fresh : List ReadyControl) (r : ReadyControl)
    (h : ∀ x ∈ fresh, x.port ≤ r.port) :
    joinReady old (old ++ fresh) r = old ++ (fresh ++ [r]) := by
  simp [joinReady, keptReady_append, insertByPort_last r fresh h]

section
variable (w : Work) (i : SlotIx) (j : JobIx) (l : LaneIx)

@[simp] theorem Work.start_before (s : State) : (Work.start s).before = s.part.lanes := rfl
@[simp] theorem Work.modSlot_before (g : Slot → Slot) : (w.modSlot i g).before = w.before := rfl
@[simp] theorem Work.modJob_before (g : Job → Job) : (w.modJob j g).before = w.before := rfl
@[simp] theorem Work.modLane_before (g : Lane → Lane) : (w.modLane l g).before = w.before := rfl
@[simp] theorem Work.modBoard_before (g : Board → Board) : (w.modBoard l g).before = w.before := rfl
@[simp] theorem Work.request_before (k : ControlKind) : (w.request i k).before = w.before := rfl
@[simp] theorem Work.withdraw_before (t : ControlKind → Bool) : (w.withdraw i t).before = w.before :=
  rfl
@[simp] theorem Work.free_before : (w.free i).before = w.before := rfl
@[simp] theorem Work.touchSlot_before : (w.touchSlot i).before = w.before := rfl
@[simp] theorem Work.touchJob_before : (w.touchJob j).before = w.before := rfl
@[simp] theorem Work.laneChanged_before : (w.laneChanged l).before = w.before := rfl
@[simp] theorem Work.boardChanged_before : (w.boardChanged l).before = w.before := rfl
@[simp] theorem Work.raise_before (c : Cause) : (w.raise c).before = w.before := rfl
@[simp] theorem Work.endCommand_before (c : CommandCell) (r : ResultCode) (x y : Word) :
    (w.endCommand c r x y).before = w.before := rfl
@[simp] theorem Work.reportCommandJobs_before : w.reportCommandJobs.before = w.before := rfl

end

/-- The ready requests of a slot's lane after a request. -/
theorem Work.request_ready (w : Work) (i : SlotIx) (k : ControlKind) :
    ((w.request i k).p.lane (laneOf i)).ready =
      joinReady (w.before.get (laneOf i)).ready (w.p.lane (laneOf i)).ready
        { port := portOf i, kind := k } := by
  simp [Work.request]

/-- After a request the slot's lane has it ready. -/
theorem Work.mem_request (w : Work) (i : SlotIx) (k : ControlKind) :
    { port := portOf i, kind := k } ∈ ((w.request i k).p.lane (laneOf i)).ready := by
  simp [Work.request_ready]

/-- The power requests of a group stand behind those ready before, in ascending port order (R149). -/
theorem Work.requestPower_ready (b : LaneIx) (old : List ReadyControl) :
    ∀ (ps : List PortIx) (w : Work) (fresh : List ReadyControl), ps.Pairwise (· < ·) →
      (w.before.get b).ready = old → (w.p.lane b).ready = old ++ fresh →
      (∀ x ∈ fresh, ∀ p ∈ ps, x.port ≤ p) →
      ((w.requestPower b ps).p.lane b).ready =
        old ++ (fresh ++ ps.map (fun p => { port := p, kind := .portPowerOn }))
  | [], w, fresh, _, _, hr, _ => by simpa [Work.requestPower] using hr
  | p :: ps, w, fresh, hs, hb, hr, hf => by
    have hp := List.pairwise_cons.mp hs
    have h1 : ((w.request (slotOf b p) .portPowerOn).p.lane b).ready =
        old ++ (fresh ++ [{ port := p, kind := .portPowerOn }]) := by
      have h := Work.request_ready w (slotOf b p) .portPowerOn
      simp only [laneOf_slotOf, portOf_slotOf, hb, hr] at h
      rw [h, joinReady_append old fresh _ (fun x hx => hf x hx p (by simp))]
    have h2 := Work.requestPower_ready b old ps (w.request (slotOf b p) .portPowerOn)
      (fresh ++ [{ port := p, kind := .portPowerOn }]) hp.2 (by simpa using hb) h1
      (fun x hx q hq => by
        rcases List.mem_append.mp hx with hx | hx
        · exact hf x hx q (by simp [hq])
        · rw [List.mem_singleton.mp hx]; exact Nat.le_of_lt (hp.1 q hq))
    simpa [Work.requestPower] using h2

/-- A power on request on an UP lane is ready. -/
theorem Work.powerOn_up (w : Work) (i : SlotIx) (h : (w.p.lane (laneOf i)).state = .up) :
    w.powerOn i = w.request i .portPowerOn := by
  simp [Work.powerOn, h]

/-- A power on request for a lane in bring-up or rebuild waits for its entry into UP. -/
theorem Work.powerOn_waits (w : Work) (i : SlotIx)
    (h : (w.p.lane (laneOf i)).state = .bringingUp ∨ (w.p.lane (laneOf i)).state = .resetting) :
    w.powerOn i = w.modBoard (laneOf i) (fun x =>
      { x with waitingPower := x.waitingPower ||| (1#16 <<< (portOf i).val) }) := by
  rcases h with h | h <;> simp [Work.powerOn, h]

/-- A power on request for a DOWN or ABSENT lane is not made (R155). -/
theorem Work.powerOn_none (w : Work) (i : SlotIx)
    (h : (w.p.lane (laneOf i)).state = .down ∨ (w.p.lane (laneOf i)).state = .absent) :
    w.powerOn i = w := by
  rcases h with h | h <;> simp [Work.powerOn, h]

/-- The board after the requests that waited were made: nothing waits, all else as before. -/
theorem Work.requestWaiting_board (w : Work) (b k : LaneIx) :
    (w.requestWaiting b).p.board k =
      if k = b then { w.p.board b with waitingPower := 0 } else w.p.board k := by
  have h : ∀ (ps : List PortIx) (w : Work), (w.requestPower b ps).p.board k = w.p.board k := by
    intro ps
    induction ps with
    | nil => intro w; rfl
    | cons p ps ih => intro w; exact (ih _).trans rfl
  rw [Work.requestWaiting, h, Work.modBoard_board]

/-- A group taken leaves a power-up that runs with the interval read now, or is over (R149, R174). -/
theorem Work.takeGroup_board (w : Work) (b k : LaneIx) :
    (w.takeGroup b).p.board k =
      if k = b then
        let y := (w.p.board b).setPorts ((w.p.board b).offPorts.take w.p.settings.groupSize) .on
        { y with staged := if y.offPorts.isEmpty then .idle
                           else .running 0 w.p.settings.groupInterval }
      else w.p.board k := by
  have h : ∀ (ps : List PortIx) (w : Work), (w.requestPower b ps).p.board k = w.p.board k := by
    intro ps
    induction ps with
    | nil => intro w; rfl
    | cons p ps ih => intro w; exact (ih _).trans rfl
  rw [Work.takeGroup, h, Work.modBoard_board]

section
variable (b : Board) (t : TreeStep) (c : BitVec 16)

@[simp] theorem Board.beginExchange_step : (b.beginExchange t c).step = t := rfl
@[simp] theorem Board.beginExchange_request : (b.beginExchange t c).request = t.request b := rfl
@[simp] theorem Board.beginExchange_timer : (b.beginExchange t c).timer = 0 := rfl
@[simp] theorem Board.beginExchange_overcurrent : (b.beginExchange t c).overcurrent = c := rfl
@[simp] theorem Board.beginExchange_rootPort :
    b.beginExchange .rootPort c =
      { step := .rootPort, request := .resetRoot, timer := 0, overcurrent := c } := rfl

end

theorem Board.offPorts_sorted (x : Board) (n : Nat) : (x.offPorts.take n).Pairwise (· < ·) := by
  have h : allPorts.Pairwise (· < ·) := by decide
  exact (h.filter _).sublist (List.take_sublist _ _)

end Sys2Proof.Machine
end

