-- ==== Sys2Proof/Laws/Slots.lean ====
section
/-! SUPPORT. What the operations of one life leave alone: every job context, every other slot, and the
places of every lane; what entering a state and reaching a verdict do to the slot itself; and what the
tests of a job leave of the slots. -/

namespace Sys2Proof.Machine

/-- A fold of operations that keep an observation of the part keeps it. -/
theorem foldl_keeps {α β : Type} (obs : Work → β) (f : Work → α → Work)
    (h : ∀ w a, obs (f w a) = obs w) (as : List α) (w : Work) : obs (as.foldl f w) = obs w := by
  induction as generalizing w with
  | nil => rfl
  | cons a as ih => rw [List.foldl_cons, ih, h]

/-- A fold of operations keeps an observation when each of them does on the list's elements. -/
theorem foldl_keeps_mem {α β : Type} (obs : Work → β) (f : Work → α → Work) (as : List α)
    (h : ∀ w a, a ∈ as → obs (f w a) = obs w) (w : Work) : obs (as.foldl f w) = obs w := by
  induction as generalizing w with
  | nil => rfl
  | cons a as ih =>
    rw [List.foldl_cons, ih (fun w b hb => h w b (by simp [hb])), h w a (by simp)]

/-! ### Job contexts -/

@[simp] theorem Work.setMap_job (w : Work) (is : List SlotIx) (m : Option JobIx) (k : JobIx) :
    (w.setMap is m).p.job k = w.p.job k := rfl

@[simp] theorem Work.setMap_slot (w : Work) (is : List SlotIx) (m : Option JobIx) (k : SlotIx) :
    (w.setMap is m).p.slot k = w.p.slot k := rfl

@[simp] theorem Work.fault_job (w : Work) (c : FaultCode) (d : Nat) (k : JobIx) :
    (w.fault c d).p.job k = w.p.job k := rfl

@[simp] theorem Work.fault_slot (w : Work) (c : FaultCode) (d : Nat) (k : SlotIx) :
    (w.fault c d).p.slot k = w.p.slot k := rfl

@[simp] theorem Work.fault_lane (w : Work) (c : FaultCode) (d : Nat) (l : LaneIx) :
    (w.fault c d).p.lane l = w.p.lane l := rfl

@[simp] theorem Work.fault_board (w : Work) (c : FaultCode) (d : Nat) (l : LaneIx) :
    (w.fault c d).p.board l = w.p.board l := rfl

@[simp] theorem Work.append_slot (w : Work) (r : OutcomeRecord) (k : SlotIx) :
    (w.append r).p.slot k = w.p.slot k := by
  simp only [Work.append]
  split <;> rfl

@[simp] theorem Work.append_job (w : Work) (r : OutcomeRecord) (k : JobIx) :
    (w.append r).p.job k = w.p.job k := by
  simp only [Work.append]
  split <;> rfl

@[simp] theorem Work.append_lane (w : Work) (r : OutcomeRecord) (k : LaneIx) :
    (w.append r).p.lane k = w.p.lane k := by
  simp only [Work.append]
  split <;> rfl

@[simp] theorem Work.append_board (w : Work) (r : OutcomeRecord) (k : LaneIx) :
    (w.append r).p.board k = w.p.board k := by
  simp only [Work.append]
  split <;> rfl

@[simp] theorem Work.free_job (w : Work) (i : SlotIx) (y : JobIx) :
    (w.free i).p.job y = w.p.job y := by
  simp only [Work.free]
  simp

@[simp] theorem Work.request_job (w : Work) (i : SlotIx) (k : ControlKind) (y : JobIx) :
    (w.request i k).p.job y = w.p.job y := by
  simp only [Work.request]
  simp

@[simp] theorem Work.withdraw_job (w : Work) (i : SlotIx) (test : ControlKind → Bool) (y : JobIx) :
    (w.withdraw i test).p.job y = w.p.job y := by
  simp only [Work.withdraw]
  simp

@[simp] theorem Work.pendLamp_job (w : Work) (i : SlotIx) (c : Lamp) (y : JobIx) :
    (w.pendLamp i c).p.job y = w.p.job y := by
  simp only [Work.pendLamp]
  (repeat' split) <;> simp

@[simp] theorem Work.refreshLamp_job (w : Work) (i : SlotIx) (y : JobIx) :
    (w.refreshLamp i).p.job y = w.p.job y := by
  simp only [Work.refreshLamp]
  (repeat' split) <;> simp

@[simp] theorem Work.refreshMode_job (w : Work) (b : LaneIx) (y : JobIx) :
    (w.refreshMode b).p.job y = w.p.job y := by
  simp only [Work.refreshMode]
  simp

@[simp] theorem Work.refreshProgress_job (w : Work) (i : SlotIx) (y : JobIx) :
    (w.refreshProgress i).p.job y = w.p.job y := by
  simp only [Work.refreshProgress]
  simp

@[simp] theorem Work.updateProgress_job (w : Work) (i : SlotIx) (y : JobIx) :
    (w.updateProgress i).p.job y = w.p.job y := by
  simp only [Work.updateProgress]
  (repeat' split) <;> simp

@[simp] theorem Work.enterState_job (w : Work) (i : SlotIx) (st : SlotState) (y : JobIx) :
    (w.enterState i st).p.job y = w.p.job y := by
  simp only [Work.enterState]
  simp

@[simp] theorem Work.terminal_job (w : Work) (i : SlotIx) (st : SlotState) (r : Reason) (y : JobIx) :
    (w.terminal i st r).p.job y = w.p.job y := by
  simp only [Work.terminal]
  simp

@[simp] theorem Work.fail_job (w : Work) (i : SlotIx) (r : Reason) (y : JobIx) :
    (w.fail i r).p.job y = w.p.job y := by
  simp only [Work.fail]
  simp

@[simp] theorem Work.placeCursor_job (w : Work) (i : SlotIx) (j : JobIx) (n o : Nat) (y : JobIx) :
    (w.placeCursor i j n o).p.job y = w.p.job y := by
  simp only [Work.placeCursor]
  simp

@[simp] theorem Work.join_job (w : Work) (i : SlotIx) (j : JobIx) (r : Nat) (y : JobIx) :
    (w.join i j r).p.job y = w.p.job y := by
  simp only [Work.join]
  simp

@[simp] theorem Work.becomeReady_job (w : Work) (i : SlotIx) (j : JobIx) (y : JobIx) :
    (w.becomeReady i j).p.job y = w.p.job y := by
  simp only [Work.becomeReady]
  (repeat' split) <;> simp

@[simp] theorem Work.deferSlot_job (w : Work) (i : SlotIx) (y : JobIx) :
    (w.deferSlot i).p.job y = w.p.job y := by
  simp only [Work.deferSlot]
  (repeat' split) <;> simp

@[simp] theorem Work.applyEnd_job (w : Work) (i : SlotIx) (y : JobIx) :
    (w.applyEnd i).p.job y = w.p.job y := by
  simp only [Work.applyEnd]
  (repeat' split) <;> simp

@[simp] theorem Work.takeEnd_job (w : Work) (i : SlotIx) (e : PendingEnd) (y : JobIx) :
    (w.takeEnd i e).p.job y = w.p.job y := by
  simp only [Work.takeEnd]
  (repeat' split) <;> simp

@[simp] theorem Work.startLife_job (w : Work) (i : SlotIx) (y : JobIx) :
    (w.startLife i).p.job y = w.p.job y := by
  simp only [Work.startLife]
  simp

@[simp] theorem Work.enterEmpty_job (w : Work) (i : SlotIx) (y : JobIx) :
    (w.enterEmpty i).p.job y = w.p.job y := by
  simp only [Work.enterEmpty]
  simp

@[simp] theorem Work.attachEmpty_job (w : Work) (i : SlotIx) (y : JobIx) :
    (w.attachEmpty i).p.job y = w.p.job y := by
  simp only [Work.attachEmpty]
  (repeat' split) <;> simp

@[simp] theorem Work.releaseAttach_job (w : Work) (i : SlotIx) (y : JobIx) :
    (w.releaseAttach i).p.job y = w.p.job y := by
  simp only [Work.releaseAttach]
  (repeat' split) <;> simp

@[simp] theorem Work.loseService_job (w : Work) (i : SlotIx) (r : Reason) (y : JobIx) :
    (w.loseService i r).p.job y = w.p.job y := by
  simp only [Work.loseService]
  (repeat' split) <;> simp

@[simp] theorem Work.beginAttempt_job (w : Work) (i : SlotIx) (y : JobIx) :
    (w.beginAttempt i).p.job y = w.p.job y := by
  simp only [Work.beginAttempt]
  simp

@[simp] theorem Work.attemptFailed_job (w : Work) (i : SlotIx) (y : JobIx) :
    (w.attemptFailed i).p.job y = w.p.job y := by
  simp only [Work.attemptFailed]
  (repeat' split) <;> simp

@[simp] theorem Work.enterEnumerating_job (w : Work) (i : SlotIx) (y : JobIx) :
    (w.enterEnumerating i).p.job y = w.p.job y := by
  simp only [Work.enterEnumerating]
  simp

@[simp] theorem Work.classCheck_job (w : Work) (i : SlotIx) (y : JobIx) :
    (w.classCheck i).p.job y = w.p.job y := by
  simp only [Work.classCheck]
  (repeat' split) <;> simp

@[simp] theorem Work.takeIn_job (w : Work) (i : SlotIx) (j : JobIx) (y : JobIx) :
    (w.takeIn i j).p.job y = w.p.job y := by
  simp only [Work.takeIn]
  simp

@[simp] theorem Work.admitOrIdle_job (w : Work) (i : SlotIx) (y : JobIx) :
    (w.admitOrIdle i).p.job y = w.p.job y := by
  simp only [Work.admitOrIdle]
  (repeat' split) <;> simp

@[simp] theorem Work.filterDecision_job (w : Work) (i : SlotIx) (y : JobIx) :
    (w.filterDecision i).p.job y = w.p.job y := by
  simp only [Work.filterDecision]
  (repeat' split) <;> simp

@[simp] theorem Work.failWaiting_job (w : Work) (j : JobIx) (y : JobIx) :
    (w.failWaiting j).p.job y = w.p.job y := by
  unfold Work.failWaiting
  apply foldl_keeps (fun w => w.p.job y)
  intros
  try dsimp only
  (repeat' split) <;> simp

@[simp] theorem Work.admitAll_job (w : Work) (j : JobIx) (is : List SlotIx) (y : JobIx) :
    (w.admitAll j is).p.job y = w.p.job y := by
  unfold Work.admitAll
  apply foldl_keeps (fun w => w.p.job y)
  intros
  try dsimp only
  simp

@[simp] theorem Work.endMemberships_job (w : Work) (j : JobIx) (y : JobIx) :
    (w.endMemberships j).p.job y = w.p.job y := by
  unfold Work.endMemberships
  apply foldl_keeps (fun w => w.p.job y)
  intros
  try dsimp only
  (repeat' split) <;> simp

@[simp] theorem Work.joinAll_job (w : Work) (j : JobIx) (js : List (SlotIx × Nat)) (y : JobIx) :
    (w.joinAll j js).p.job y = w.p.job y := by
  unfold Work.joinAll
  apply foldl_keeps (fun w => w.p.job y)
  intros
  try dsimp only
  simp

@[simp] theorem Work.settleWaiting_job (w : Work) (j : JobIx) (n : Nat) (y : JobIx) :
    (w.settleWaiting j n).p.job y = w.p.job y := by
  unfold Work.settleWaiting
  apply foldl_keeps (fun w => w.p.job y)
  intros
  try dsimp only
  (repeat' split) <;> simp

@[simp] theorem Work.refreshAllLamps_job (w : Work) (y : JobIx) :
    (w.refreshAllLamps).p.job y = w.p.job y := by
  unfold Work.refreshAllLamps
  apply foldl_keeps (fun w => w.p.job y)
  intros
  try dsimp only
  simp

@[simp] theorem Work.settleNow_job (w : Work) (y : JobIx) :
    (w.settleNow).p.job y = w.p.job y := by
  unfold Work.settleNow
  apply foldl_keeps (fun w => w.p.job y)
  intros
  try dsimp only
  (repeat' split) <;> simp

@[simp] theorem Work.clearWaiting_job (w : Work) (b : LaneIx) (y : JobIx) :
    (w.clearWaiting b).p.job y = w.p.job y := by
  unfold Work.clearWaiting
  apply foldl_keeps (fun w => w.p.job y)
  intros
  try dsimp only
  simp

@[simp] theorem Work.requestPower_job (w : Work) (b : LaneIx) (ps : List PortIx) (y : JobIx) :
    (w.requestPower b ps).p.job y = w.p.job y := by
  unfold Work.requestPower
  apply foldl_keeps (fun w => w.p.job y)
  intros
  simp

@[simp] theorem Work.requestWaiting_job (w : Work) (b : LaneIx) (y : JobIx) :
    (w.requestWaiting b).p.job y = w.p.job y := by
  simp [Work.requestWaiting]

@[simp] theorem Work.powerOn_job (w : Work) (i : SlotIx) (y : JobIx) :
    (w.powerOn i).p.job y = w.p.job y := by
  simp only [Work.powerOn]
  split <;> simp

@[simp] theorem Work.discardLamps_job (w : Work) (l : LaneIx) (y : JobIx) :
    (w.discardLamps l).p.job y = w.p.job y := by
  unfold Work.discardLamps
  apply foldl_keeps (fun w => w.p.job y)
  intros
  try dsimp only
  simp

@[simp] theorem Work.unknownLamps_job (w : Work) (l : LaneIx) (y : JobIx) :
    (w.unknownLamps l).p.job y = w.p.job y := by
  unfold Work.unknownLamps
  apply foldl_keeps (fun w => w.p.job y)
  intros
  try dsimp only
  simp

@[simp] theorem Work.judgeWaiting_job (w : Work) (y : JobIx) :
    (w.judgeWaiting).p.job y = w.p.job y := by
  simp only [Work.judgeWaiting]
  split <;> rfl

@[simp] theorem Work.countFailure_job (w : Work) (i : SlotIx) (y : JobIx) :
    (w.countFailure i).p.job y = w.p.job y := by
  simp only [Work.countFailure]
  simp

@[simp] theorem Work.countedFailure_job (w : Work) (i : SlotIx) (k : DataKind) (c : ResultClass) (y : JobIx) :
    (w.countedFailure i k c).p.job y = w.p.job y := by
  simp only [Work.countedFailure]
  (repeat' split) <;> simp

@[simp] theorem Work.notReadyResult_job (w : Work) (i : SlotIx) (y : JobIx) :
    (w.notReadyResult i).p.job y = w.p.job y := by
  simp only [Work.notReadyResult]
  (repeat' split) <;> simp

@[simp] theorem Work.goodEffect_job (w : Work) (i : SlotIx) (j : JobIx) (r : DataRequest) (a : DataAnswer) (y : JobIx) :
    (w.goodEffect i j r a).p.job y = w.p.job y := by
  simp only [Work.goodEffect]
  (repeat' split) <;> simp

@[simp] theorem Work.enterProbing_job (w : Work) (i : SlotIx) (j : JobIx) (y : JobIx) :
    (w.enterProbing i j).p.job y = w.p.job y := by
  simp only [Work.enterProbing, Work.enterState_job]
  rfl

@[simp] theorem Work.setProbe_job (w : Work) (i : SlotIx) (q : ProbePosition) (y : JobIx) :
    (w.setProbe i q).p.job y = w.p.job y := by
  simp only [Work.setProbe]
  simp

@[simp] theorem Work.checkCapacity_job (w : Work) (i : SlotIx) (j : JobIx) (a : DataAnswer) (y : JobIx) :
    (w.checkCapacity i j a).p.job y = w.p.job y := by
  simp only [Work.checkCapacity]
  (repeat' split) <;> simp

@[simp] theorem Work.scrubFrom_job (w : Work) (i : SlotIx) (j : JobIx) (q : ProbePosition) (k : Nat) (y : JobIx) :
    (w.scrubFrom i j q k).p.job y = w.p.job y := by
  simp only [Work.scrubFrom]
  (repeat' split) <;> simp

@[simp] theorem Work.fakeCapacity_job (w : Work) (i : SlotIx) (j : JobIx) (q : ProbePosition) (y : JobIx) :
    (w.fakeCapacity i j q).p.job y = w.p.job y := by
  simp only [Work.fakeCapacity]
  simp

@[simp] theorem Work.probeWritten_job (w : Work) (i : SlotIx) (q : ProbePosition) (y : JobIx) :
    (w.probeWritten i q).p.job y = w.p.job y := by
  simp only [Work.probeWritten]
  (repeat' split) <;> simp

@[simp] theorem Work.probeJudged_job (w : Work) (i : SlotIx) (j : JobIx) (q : ProbePosition) (intact : Bool) (y : JobIx) :
    (w.probeJudged i j q intact).p.job y = w.p.job y := by
  simp only [Work.probeJudged]
  (repeat' split) <;> simp

@[simp] theorem Work.finishWriting_job (w : Work) (i : SlotIx) (j : JobIx) (y : JobIx) :
    (w.finishWriting i j).p.job y = w.p.job y := by
  simp only [Work.finishWriting]
  (repeat' split) <;> simp

@[simp] theorem Work.chunkEqual_job (w : Work) (i : SlotIx) (j : JobIx) (n : Nat) (y : JobIx) :
    (w.chunkEqual i j n).p.job y = w.p.job y := by
  simp only [Work.chunkEqual]
  (repeat' split) <;> simp

@[simp] theorem Work.chunkAgain_job (w : Work) (i : SlotIx) (j : JobIx) (n : Nat) (y : JobIx) :
    (w.chunkAgain i j n).p.job y = w.p.job y := by
  simp only [Work.chunkAgain]
  simp

@[simp] theorem Work.compareChunk_job (w : Work) (m : Memory) (i : SlotIx) (j : JobIx) (digestError : Bool) (y : JobIx) :
    (w.compareChunk m i j digestError).p.job y = w.p.job y := by
  simp only [Work.compareChunk]
  (repeat' split) <;> simp

@[simp] theorem Work.goodProceed_job (w : Work) (m : Memory) (i : SlotIx) (j : JobIx) (r : DataRequest) (a : DataAnswer) (digestError : Bool) (y : JobIx) :
    (w.goodProceed m i j r a digestError).p.job y = w.p.job y := by
  simp only [Work.goodProceed]
  (repeat' split) <;> simp

@[simp] theorem Work.dataResult_job (w : Work) (m : Memory) (i : SlotIx) (j : JobIx) (r : DataRequest) (c : ResultClass) (a : DataAnswer) (digestError : Bool) (y : JobIx) :
    (w.dataResult m i j r c a digestError).p.job y = w.p.job y := by
  simp only [Work.dataResult]
  (repeat' split) <;> simp

@[simp] theorem Work.lastResult_job (w : Work) (i : SlotIx) (j : JobIx) (r : DataRequest) (c : ResultClass) (a : DataAnswer) (y : JobIx) :
    (w.lastResult i j r c a).p.job y = w.p.job y := by
  simp only [Work.lastResult]
  (repeat' split) <;> simp

@[simp] theorem Work.lampEnd_job (w : Work) (i : SlotIx) (c : Lamp) (good : Bool) (y : JobIx) :
    (w.lampEnd i c good).p.job y = w.p.job y := by
  simp only [Work.lampEnd]
  (repeat' split) <;> simp

@[simp] theorem Work.recordIdentity_job (w : Work) (i : SlotIx) (a : ControlAnswer) (y : JobIx) :
    (w.recordIdentity i a).p.job y = w.p.job y := by
  simp only [Work.recordIdentity]
  (repeat' split) <;> simp

@[simp] theorem Work.nextStep_job (w : Work) (i : SlotIx) (k : ControlKind) (a : ControlAnswer) (y : JobIx) :
    (w.nextStep i k a).p.job y = w.p.job y := by
  simp only [Work.nextStep]
  (repeat' split) <;> simp

@[simp] theorem Work.healthGood_job (w : Work) (l : LaneIx) (good : Bool) (y : JobIx) :
    (w.healthGood l good).p.job y = w.p.job y := by
  simp only [Work.healthGood]
  (repeat' split) <;> simp

@[simp] theorem Work.healthExpired_job (w : Work) (l : LaneIx) (y : JobIx) :
    (w.healthExpired l).p.job y = w.p.job y := by
  simp only [Work.healthExpired]
  simp

/-! ### Other slots -/

@[simp] theorem Work.free_slot (w : Work) (i : SlotIx) (y : SlotIx) :
    (w.free i).p.slot y = w.p.slot y := by
  simp only [Work.free]
  simp

@[simp] theorem Work.request_slot (w : Work) (i : SlotIx) (k : ControlKind) (y : SlotIx) :
    (w.request i k).p.slot y = w.p.slot y := by
  simp only [Work.request]
  simp

@[simp] theorem Work.withdraw_slot (w : Work) (i : SlotIx) (test : ControlKind → Bool) (y : SlotIx) :
    (w.withdraw i test).p.slot y = w.p.slot y := by
  simp only [Work.withdraw]
  simp

@[simp] theorem Work.requestPower_slot (w : Work) (b : LaneIx) (ps : List PortIx) (y : SlotIx) :
    (w.requestPower b ps).p.slot y = w.p.slot y := by
  unfold Work.requestPower
  apply foldl_keeps (fun w => w.p.slot y)
  intros
  simp

@[simp] theorem Work.requestWaiting_slot (w : Work) (b : LaneIx) (y : SlotIx) :
    (w.requestWaiting b).p.slot y = w.p.slot y := by
  simp [Work.requestWaiting]

@[simp] theorem Work.powerOn_slot (w : Work) (i : SlotIx) (y : SlotIx) :
    (w.powerOn i).p.slot y = w.p.slot y := by
  simp only [Work.powerOn]
  split <;> simp

@[simp] theorem Work.pendLamp_slot_ne (w : Work) (i : SlotIx) (c : Lamp) {y : SlotIx} (h : y ≠ i) :
    (w.pendLamp i c).p.slot y = w.p.slot y := by
  simp only [Work.pendLamp]
  (repeat' split) <;> simp [h]

@[simp] theorem Work.refreshLamp_slot_ne (w : Work) (i : SlotIx) {y : SlotIx} (h : y ≠ i) :
    (w.refreshLamp i).p.slot y = w.p.slot y := by
  simp only [Work.refreshLamp]
  (repeat' split) <;> simp [h]

@[simp] theorem Work.refreshMode_slot (w : Work) (b : LaneIx) (y : SlotIx) :
    (w.refreshMode b).p.slot y = w.p.slot y := by
  simp only [Work.refreshMode]
  simp

@[simp] theorem Work.refreshProgress_slot_ne (w : Work) (i : SlotIx) {y : SlotIx} (h : y ≠ i) :
    (w.refreshProgress i).p.slot y = w.p.slot y := by
  simp only [Work.refreshProgress]
  simp [h]

@[simp] theorem Work.updateProgress_slot_ne (w : Work) (i : SlotIx) {y : SlotIx} (h : y ≠ i) :
    (w.updateProgress i).p.slot y = w.p.slot y := by
  simp only [Work.updateProgress]
  (repeat' split) <;> simp [h]

@[simp] theorem Work.enterState_slot_ne (w : Work) (i : SlotIx) (st : SlotState) {y : SlotIx} (h : y ≠ i) :
    (w.enterState i st).p.slot y = w.p.slot y := by
  simp only [Work.enterState]
  simp [h]

@[simp] theorem Work.terminal_slot_ne (w : Work) (i : SlotIx) (st : SlotState) (r : Reason) {y : SlotIx} (h : y ≠ i) :
    (w.terminal i st r).p.slot y = w.p.slot y := by
  simp only [Work.terminal]
  simp [h]

@[simp] theorem Work.fail_slot_ne (w : Work) (i : SlotIx) (r : Reason) {y : SlotIx} (h : y ≠ i) :
    (w.fail i r).p.slot y = w.p.slot y := by
  simp only [Work.fail]
  simp [h]

@[simp] theorem Work.placeCursor_slot_ne (w : Work) (i : SlotIx) (j : JobIx) (n o : Nat) {y : SlotIx} (h : y ≠ i) :
    (w.placeCursor i j n o).p.slot y = w.p.slot y := by
  simp only [Work.placeCursor]
  simp [h]

@[simp] theorem Work.join_slot_ne (w : Work) (i : SlotIx) (j : JobIx) (r : Nat) {y : SlotIx} (h : y ≠ i) :
    (w.join i j r).p.slot y = w.p.slot y := by
  simp only [Work.join]
  simp [h]

@[simp] theorem Work.becomeReady_slot_ne (w : Work) (i : SlotIx) (j : JobIx) {y : SlotIx} (h : y ≠ i) :
    (w.becomeReady i j).p.slot y = w.p.slot y := by
  simp only [Work.becomeReady]
  (repeat' split) <;> simp [h]

@[simp] theorem Work.deferSlot_slot_ne (w : Work) (i : SlotIx) {y : SlotIx} (h : y ≠ i) :
    (w.deferSlot i).p.slot y = w.p.slot y := by
  simp only [Work.deferSlot]
  (repeat' split) <;> simp [h]

@[simp] theorem Work.applyEnd_slot_ne (w : Work) (i : SlotIx) {y : SlotIx} (h : y ≠ i) :
    (w.applyEnd i).p.slot y = w.p.slot y := by
  simp only [Work.applyEnd]
  (repeat' split) <;> simp [h]

@[simp] theorem Work.takeEnd_slot_ne (w : Work) (i : SlotIx) (e : PendingEnd) {y : SlotIx} (h : y ≠ i) :
    (w.takeEnd i e).p.slot y = w.p.slot y := by
  simp only [Work.takeEnd]
  (repeat' split) <;> simp [h]

@[simp] theorem Work.startLife_slot_ne (w : Work) (i : SlotIx) {y : SlotIx} (h : y ≠ i) :
    (w.startLife i).p.slot y = w.p.slot y := by
  simp only [Work.startLife]
  simp [h]

@[simp] theorem Work.enterEmpty_slot_ne (w : Work) (i : SlotIx) {y : SlotIx} (h : y ≠ i) :
    (w.enterEmpty i).p.slot y = w.p.slot y := by
  simp only [Work.enterEmpty]
  simp [h]

@[simp] theorem Work.attachEmpty_slot_ne (w : Work) (i : SlotIx) {y : SlotIx} (h : y ≠ i) :
    (w.attachEmpty i).p.slot y = w.p.slot y := by
  simp only [Work.attachEmpty]
  (repeat' split) <;> simp [h]

@[simp] theorem Work.releaseAttach_slot_ne (w : Work) (i : SlotIx) {y : SlotIx} (h : y ≠ i) :
    (w.releaseAttach i).p.slot y = w.p.slot y := by
  simp only [Work.releaseAttach]
  (repeat' split) <;> simp [h]

@[simp] theorem Work.loseService_slot_ne (w : Work) (i : SlotIx) (r : Reason) {y : SlotIx} (h : y ≠ i) :
    (w.loseService i r).p.slot y = w.p.slot y := by
  simp only [Work.loseService]
  (repeat' split) <;> simp [h]

@[simp] theorem Work.beginAttempt_slot_ne (w : Work) (i : SlotIx) {y : SlotIx} (h : y ≠ i) :
    (w.beginAttempt i).p.slot y = w.p.slot y := by
  simp only [Work.beginAttempt]
  simp [h]

@[simp] theorem Work.attemptFailed_slot_ne (w : Work) (i : SlotIx) {y : SlotIx} (h : y ≠ i) :
    (w.attemptFailed i).p.slot y = w.p.slot y := by
  simp only [Work.attemptFailed]
  (repeat' split) <;> simp [h]

@[simp] theorem Work.enterEnumerating_slot_ne (w : Work) (i : SlotIx) {y : SlotIx} (h : y ≠ i) :
    (w.enterEnumerating i).p.slot y = w.p.slot y := by
  simp only [Work.enterEnumerating]
  simp [h]

@[simp] theorem Work.classCheck_slot_ne (w : Work) (i : SlotIx) {y : SlotIx} (h : y ≠ i) :
    (w.classCheck i).p.slot y = w.p.slot y := by
  simp only [Work.classCheck]
  (repeat' split) <;> simp [h]

@[simp] theorem Work.takeIn_slot_ne (w : Work) (i : SlotIx) (j : JobIx) {y : SlotIx} (h : y ≠ i) :
    (w.takeIn i j).p.slot y = w.p.slot y := by
  simp only [Work.takeIn]
  simp [h]

@[simp] theorem Work.admitOrIdle_slot_ne (w : Work) (i : SlotIx) {y : SlotIx} (h : y ≠ i) :
    (w.admitOrIdle i).p.slot y = w.p.slot y := by
  simp only [Work.admitOrIdle]
  (repeat' split) <;> simp [h]

@[simp] theorem Work.filterDecision_slot_ne (w : Work) (i : SlotIx) {y : SlotIx} (h : y ≠ i) :
    (w.filterDecision i).p.slot y = w.p.slot y := by
  simp only [Work.filterDecision]
  (repeat' split) <;> simp [h]

@[simp] theorem Work.countFailure_slot_ne (w : Work) (i : SlotIx) {y : SlotIx} (h : y ≠ i) :
    (w.countFailure i).p.slot y = w.p.slot y := by
  simp only [Work.countFailure]
  simp [h]

@[simp] theorem Work.countedFailure_slot_ne (w : Work) (i : SlotIx) (k : DataKind) (c : ResultClass) {y : SlotIx} (h : y ≠ i) :
    (w.countedFailure i k c).p.slot y = w.p.slot y := by
  simp only [Work.countedFailure]
  (repeat' split) <;> simp [h]

@[simp] theorem Work.notReadyResult_slot_ne (w : Work) (i : SlotIx) {y : SlotIx} (h : y ≠ i) :
    (w.notReadyResult i).p.slot y = w.p.slot y := by
  simp only [Work.notReadyResult]
  (repeat' split) <;> simp [h]

@[simp] theorem Work.goodEffect_slot_ne (w : Work) (i : SlotIx) (j : JobIx) (r : DataRequest) (a : DataAnswer) {y : SlotIx} (h : y ≠ i) :
    (w.goodEffect i j r a).p.slot y = w.p.slot y := by
  simp only [Work.goodEffect]
  (repeat' split) <;> simp [h]

@[simp] theorem Work.enterProbing_slot_ne (w : Work) (i : SlotIx) (j : JobIx) {y : SlotIx} (h : y ≠ i) :
    (w.enterProbing i j).p.slot y = w.p.slot y := by
  simp only [Work.enterProbing]
  rw [Work.enterState_slot_ne _ _ _ h]
  exact Work.modSlot_slot_ne w i y (fun s => _) h

@[simp] theorem Work.setProbe_slot_ne (w : Work) (i : SlotIx) (q : ProbePosition) {y : SlotIx} (h : y ≠ i) :
    (w.setProbe i q).p.slot y = w.p.slot y := by
  simp only [Work.setProbe]
  simp [h]

@[simp] theorem Work.checkCapacity_slot_ne (w : Work) (i : SlotIx) (j : JobIx) (a : DataAnswer) {y : SlotIx} (h : y ≠ i) :
    (w.checkCapacity i j a).p.slot y = w.p.slot y := by
  simp only [Work.checkCapacity]
  (repeat' split) <;> simp [h]

@[simp] theorem Work.scrubFrom_slot_ne (w : Work) (i : SlotIx) (j : JobIx) (q : ProbePosition) (k : Nat) {y : SlotIx} (h : y ≠ i) :
    (w.scrubFrom i j q k).p.slot y = w.p.slot y := by
  simp only [Work.scrubFrom]
  (repeat' split) <;> simp [h]

@[simp] theorem Work.fakeCapacity_slot_ne (w : Work) (i : SlotIx) (j : JobIx) (q : ProbePosition) {y : SlotIx} (h : y ≠ i) :
    (w.fakeCapacity i j q).p.slot y = w.p.slot y := by
  simp only [Work.fakeCapacity]
  simp [h]

@[simp] theorem Work.probeWritten_slot_ne (w : Work) (i : SlotIx) (q : ProbePosition) {y : SlotIx} (h : y ≠ i) :
    (w.probeWritten i q).p.slot y = w.p.slot y := by
  simp only [Work.probeWritten]
  (repeat' split) <;> simp [h]

@[simp] theorem Work.probeJudged_slot_ne (w : Work) (i : SlotIx) (j : JobIx) (q : ProbePosition) (intact : Bool) {y : SlotIx} (h : y ≠ i) :
    (w.probeJudged i j q intact).p.slot y = w.p.slot y := by
  simp only [Work.probeJudged]
  (repeat' split) <;> simp [h]

@[simp] theorem Work.finishWriting_slot_ne (w : Work) (i : SlotIx) (j : JobIx) {y : SlotIx} (h : y ≠ i) :
    (w.finishWriting i j).p.slot y = w.p.slot y := by
  simp only [Work.finishWriting]
  (repeat' split) <;> simp [h]

@[simp] theorem Work.chunkEqual_slot_ne (w : Work) (i : SlotIx) (j : JobIx) (n : Nat) {y : SlotIx} (h : y ≠ i) :
    (w.chunkEqual i j n).p.slot y = w.p.slot y := by
  simp only [Work.chunkEqual]
  (repeat' split) <;> simp [h]

@[simp] theorem Work.chunkAgain_slot_ne (w : Work) (i : SlotIx) (j : JobIx) (n : Nat) {y : SlotIx} (h : y ≠ i) :
    (w.chunkAgain i j n).p.slot y = w.p.slot y := by
  simp only [Work.chunkAgain]
  simp [h]

@[simp] theorem Work.compareChunk_slot_ne (w : Work) (m : Memory) (i : SlotIx) (j : JobIx) (digestError : Bool) {y : SlotIx} (h : y ≠ i) :
    (w.compareChunk m i j digestError).p.slot y = w.p.slot y := by
  simp only [Work.compareChunk]
  (repeat' split) <;> simp [h]

@[simp] theorem Work.goodProceed_slot_ne (w : Work) (m : Memory) (i : SlotIx) (j : JobIx) (r : DataRequest) (a : DataAnswer) (digestError : Bool) {y : SlotIx} (h : y ≠ i) :
    (w.goodProceed m i j r a digestError).p.slot y = w.p.slot y := by
  simp only [Work.goodProceed]
  (repeat' split) <;> simp [h]

@[simp] theorem Work.dataResult_slot_ne (w : Work) (m : Memory) (i : SlotIx) (j : JobIx) (r : DataRequest) (c : ResultClass) (a : DataAnswer) (digestError : Bool) {y : SlotIx} (h : y ≠ i) :
    (w.dataResult m i j r c a digestError).p.slot y = w.p.slot y := by
  simp only [Work.dataResult]
  (repeat' split) <;> simp [h]

@[simp] theorem Work.lastResult_slot_ne (w : Work) (i : SlotIx) (j : JobIx) (r : DataRequest) (c : ResultClass) (a : DataAnswer) {y : SlotIx} (h : y ≠ i) :
    (w.lastResult i j r c a).p.slot y = w.p.slot y := by
  simp only [Work.lastResult]
  (repeat' split) <;> simp [h]

@[simp] theorem Work.lampEnd_slot_ne (w : Work) (i : SlotIx) (c : Lamp) (good : Bool) {y : SlotIx} (h : y ≠ i) :
    (w.lampEnd i c good).p.slot y = w.p.slot y := by
  simp only [Work.lampEnd]
  (repeat' split) <;> simp [h]

@[simp] theorem Work.recordIdentity_slot_ne (w : Work) (i : SlotIx) (a : ControlAnswer) {y : SlotIx} (h : y ≠ i) :
    (w.recordIdentity i a).p.slot y = w.p.slot y := by
  simp only [Work.recordIdentity]
  (repeat' split) <;> simp [h]

@[simp] theorem Work.nextStep_slot_ne (w : Work) (i : SlotIx) (k : ControlKind) (a : ControlAnswer) {y : SlotIx} (h : y ≠ i) :
    (w.nextStep i k a).p.slot y = w.p.slot y := by
  simp only [Work.nextStep]
  (repeat' split) <;> simp [h]

@[simp] theorem Work.healthGood_slot (w : Work) (l : LaneIx) (good : Bool) (y : SlotIx) :
    (w.healthGood l good).p.slot y = w.p.slot y := by
  simp only [Work.healthGood]
  (repeat' split) <;> simp

@[simp] theorem Work.healthExpired_slot (w : Work) (l : LaneIx) (y : SlotIx) :
    (w.healthExpired l).p.slot y = w.p.slot y := by
  simp only [Work.healthExpired]
  simp

/-! ### Places -/

@[simp] theorem Work.modLane_places (w : Work) (l k : LaneIx) (g : Lane → Lane)
    (h : (g (w.p.lane l)).places = (w.p.lane l).places) :
    ((w.modLane l g).p.lane k).places = (w.p.lane k).places := by
  rw [Work.modLane_lane]; split
  · rename_i e; rw [h, e]
  · rfl

@[simp] theorem Work.request_places (w : Work) (i : SlotIx) (k : ControlKind) (y : LaneIx) :
    ((w.request i k).p.lane y).places = (w.p.lane y).places := by
  simp only [Work.request]
  simp

@[simp] theorem Work.withdraw_places (w : Work) (i : SlotIx) (test : ControlKind → Bool) (y : LaneIx) :
    ((w.withdraw i test).p.lane y).places = (w.p.lane y).places := by
  simp only [Work.withdraw]
  simp

@[simp] theorem Work.pendLamp_places (w : Work) (i : SlotIx) (c : Lamp) (y : LaneIx) :
    ((w.pendLamp i c).p.lane y).places = (w.p.lane y).places := by
  simp only [Work.pendLamp]
  (repeat' split) <;> simp

@[simp] theorem Work.refreshLamp_places (w : Work) (i : SlotIx) (y : LaneIx) :
    ((w.refreshLamp i).p.lane y).places = (w.p.lane y).places := by
  simp only [Work.refreshLamp]
  (repeat' split) <;> simp

@[simp] theorem Work.refreshMode_places (w : Work) (b : LaneIx) (y : LaneIx) :
    ((w.refreshMode b).p.lane y).places = (w.p.lane y).places := by
  simp only [Work.refreshMode]
  simp

@[simp] theorem Work.refreshProgress_places (w : Work) (i : SlotIx) (y : LaneIx) :
    ((w.refreshProgress i).p.lane y).places = (w.p.lane y).places := by
  simp only [Work.refreshProgress]
  simp

@[simp] theorem Work.updateProgress_places (w : Work) (i : SlotIx) (y : LaneIx) :
    ((w.updateProgress i).p.lane y).places = (w.p.lane y).places := by
  simp only [Work.updateProgress]
  (repeat' split) <;> simp

@[simp] theorem Work.enterState_places (w : Work) (i : SlotIx) (st : SlotState) (y : LaneIx) :
    ((w.enterState i st).p.lane y).places = (w.p.lane y).places := by
  simp only [Work.enterState]
  simp

@[simp] theorem Work.terminal_places (w : Work) (i : SlotIx) (st : SlotState) (r : Reason) (y : LaneIx) :
    ((w.terminal i st r).p.lane y).places = (w.p.lane y).places := by
  simp only [Work.terminal]
  simp

@[simp] theorem Work.fail_places (w : Work) (i : SlotIx) (r : Reason) (y : LaneIx) :
    ((w.fail i r).p.lane y).places = (w.p.lane y).places := by
  simp only [Work.fail]
  simp

@[simp] theorem Work.placeCursor_places (w : Work) (i : SlotIx) (j : JobIx) (n o : Nat) (y : LaneIx) :
    ((w.placeCursor i j n o).p.lane y).places = (w.p.lane y).places := by
  simp only [Work.placeCursor]
  simp

@[simp] theorem Work.join_places (w : Work) (i : SlotIx) (j : JobIx) (r : Nat) (y : LaneIx) :
    ((w.join i j r).p.lane y).places = (w.p.lane y).places := by
  simp only [Work.join]
  simp

@[simp] theorem Work.becomeReady_places (w : Work) (i : SlotIx) (j : JobIx) (y : LaneIx) :
    ((w.becomeReady i j).p.lane y).places = (w.p.lane y).places := by
  simp only [Work.becomeReady]
  (repeat' split) <;> simp

@[simp] theorem Work.deferSlot_places (w : Work) (i : SlotIx) (y : LaneIx) :
    ((w.deferSlot i).p.lane y).places = (w.p.lane y).places := by
  simp only [Work.deferSlot]
  (repeat' split) <;> simp

@[simp] theorem Work.applyEnd_places (w : Work) (i : SlotIx) (y : LaneIx) :
    ((w.applyEnd i).p.lane y).places = (w.p.lane y).places := by
  simp only [Work.applyEnd]
  (repeat' split) <;> simp

@[simp] theorem Work.takeEnd_places (w : Work) (i : SlotIx) (e : PendingEnd) (y : LaneIx) :
    ((w.takeEnd i e).p.lane y).places = (w.p.lane y).places := by
  simp only [Work.takeEnd]
  (repeat' split) <;> simp

@[simp] theorem Work.startLife_places (w : Work) (i : SlotIx) (y : LaneIx) :
    ((w.startLife i).p.lane y).places = (w.p.lane y).places := by
  simp only [Work.startLife]
  simp

@[simp] theorem Work.enterEmpty_places (w : Work) (i : SlotIx) (y : LaneIx) :
    ((w.enterEmpty i).p.lane y).places = (w.p.lane y).places := by
  simp only [Work.enterEmpty]
  simp

@[simp] theorem Work.attachEmpty_places (w : Work) (i : SlotIx) (y : LaneIx) :
    ((w.attachEmpty i).p.lane y).places = (w.p.lane y).places := by
  simp only [Work.attachEmpty]
  (repeat' split) <;> simp

@[simp] theorem Work.releaseAttach_places (w : Work) (i : SlotIx) (y : LaneIx) :
    ((w.releaseAttach i).p.lane y).places = (w.p.lane y).places := by
  simp only [Work.releaseAttach]
  (repeat' split) <;> simp

@[simp] theorem Work.loseService_places (w : Work) (i : SlotIx) (r : Reason) (y : LaneIx) :
    ((w.loseService i r).p.lane y).places = (w.p.lane y).places := by
  simp only [Work.loseService]
  (repeat' split) <;> simp

@[simp] theorem Work.beginAttempt_places (w : Work) (i : SlotIx) (y : LaneIx) :
    ((w.beginAttempt i).p.lane y).places = (w.p.lane y).places := by
  simp only [Work.beginAttempt]
  simp

@[simp] theorem Work.attemptFailed_places (w : Work) (i : SlotIx) (y : LaneIx) :
    ((w.attemptFailed i).p.lane y).places = (w.p.lane y).places := by
  simp only [Work.attemptFailed]
  (repeat' split) <;> simp

@[simp] theorem Work.enterEnumerating_places (w : Work) (i : SlotIx) (y : LaneIx) :
    ((w.enterEnumerating i).p.lane y).places = (w.p.lane y).places := by
  simp only [Work.enterEnumerating]
  simp

@[simp] theorem Work.classCheck_places (w : Work) (i : SlotIx) (y : LaneIx) :
    ((w.classCheck i).p.lane y).places = (w.p.lane y).places := by
  simp only [Work.classCheck]
  (repeat' split) <;> simp

@[simp] theorem Work.takeIn_places (w : Work) (i : SlotIx) (j : JobIx) (y : LaneIx) :
    ((w.takeIn i j).p.lane y).places = (w.p.lane y).places := by
  simp only [Work.takeIn]
  simp

@[simp] theorem Work.admitOrIdle_places (w : Work) (i : SlotIx) (y : LaneIx) :
    ((w.admitOrIdle i).p.lane y).places = (w.p.lane y).places := by
  simp only [Work.admitOrIdle]
  (repeat' split) <;> simp

@[simp] theorem Work.filterDecision_places (w : Work) (i : SlotIx) (y : LaneIx) :
    ((w.filterDecision i).p.lane y).places = (w.p.lane y).places := by
  simp only [Work.filterDecision]
  (repeat' split) <;> simp

@[simp] theorem Work.failWaiting_places (w : Work) (j : JobIx) (y : LaneIx) :
    ((w.failWaiting j).p.lane y).places = (w.p.lane y).places := by
  unfold Work.failWaiting
  apply foldl_keeps (fun w => (w.p.lane y).places)
  intros
  try dsimp only
  (repeat' split) <;> simp

@[simp] theorem Work.admitAll_places (w : Work) (j : JobIx) (is : List SlotIx) (y : LaneIx) :
    ((w.admitAll j is).p.lane y).places = (w.p.lane y).places := by
  unfold Work.admitAll
  apply foldl_keeps (fun w => (w.p.lane y).places)
  intros
  try dsimp only
  simp

@[simp] theorem Work.endMemberships_places (w : Work) (j : JobIx) (y : LaneIx) :
    ((w.endMemberships j).p.lane y).places = (w.p.lane y).places := by
  unfold Work.endMemberships
  apply foldl_keeps (fun w => (w.p.lane y).places)
  intros
  try dsimp only
  (repeat' split) <;> simp

@[simp] theorem Work.joinAll_places (w : Work) (j : JobIx) (js : List (SlotIx × Nat)) (y : LaneIx) :
    ((w.joinAll j js).p.lane y).places = (w.p.lane y).places := by
  unfold Work.joinAll
  apply foldl_keeps (fun w => (w.p.lane y).places)
  intros
  try dsimp only
  simp

@[simp] theorem Work.settleWaiting_places (w : Work) (j : JobIx) (n : Nat) (y : LaneIx) :
    ((w.settleWaiting j n).p.lane y).places = (w.p.lane y).places := by
  unfold Work.settleWaiting
  apply foldl_keeps (fun w => (w.p.lane y).places)
  intros
  try dsimp only
  (repeat' split) <;> simp

@[simp] theorem Work.refreshAllLamps_places (w : Work) (y : LaneIx) :
    ((w.refreshAllLamps).p.lane y).places = (w.p.lane y).places := by
  unfold Work.refreshAllLamps
  apply foldl_keeps (fun w => (w.p.lane y).places)
  intros
  try dsimp only
  simp

@[simp] theorem Work.settleNow_places (w : Work) (y : LaneIx) :
    ((w.settleNow).p.lane y).places = (w.p.lane y).places := by
  unfold Work.settleNow
  apply foldl_keeps (fun w => (w.p.lane y).places)
  intros
  try dsimp only
  (repeat' split) <;> simp

@[simp] theorem Work.clearWaiting_places (w : Work) (b : LaneIx) (y : LaneIx) :
    ((w.clearWaiting b).p.lane y).places = (w.p.lane y).places := by
  unfold Work.clearWaiting
  apply foldl_keeps (fun w => (w.p.lane y).places)
  intros
  try dsimp only
  simp

@[simp] theorem Work.discardLamps_places (w : Work) (l : LaneIx) (y : LaneIx) :
    ((w.discardLamps l).p.lane y).places = (w.p.lane y).places := by
  unfold Work.discardLamps
  apply foldl_keeps (fun w => (w.p.lane y).places)
  intros
  try dsimp only
  simp

@[simp] theorem Work.unknownLamps_places (w : Work) (l : LaneIx) (y : LaneIx) :
    ((w.unknownLamps l).p.lane y).places = (w.p.lane y).places := by
  unfold Work.unknownLamps
  apply foldl_keeps (fun w => (w.p.lane y).places)
  intros
  try dsimp only
  simp

@[simp] theorem Work.enterProbing_places (w : Work) (i : SlotIx) (j : JobIx) (y : LaneIx) :
    ((w.enterProbing i j).p.lane y).places = (w.p.lane y).places := by
  simp only [Work.enterProbing, Work.enterState_places]
  rfl

@[simp] theorem Work.countFailure_places (w : Work) (i : SlotIx) (y : LaneIx) :
    ((w.countFailure i).p.lane y).places = (w.p.lane y).places := by
  simp only [Work.countFailure]
  simp

@[simp] theorem Work.countedFailure_places (w : Work) (i : SlotIx) (k : DataKind) (c : ResultClass) (y : LaneIx) :
    ((w.countedFailure i k c).p.lane y).places = (w.p.lane y).places := by
  simp only [Work.countedFailure]
  (repeat' split) <;> simp

@[simp] theorem Work.notReadyResult_places (w : Work) (i : SlotIx) (y : LaneIx) :
    ((w.notReadyResult i).p.lane y).places = (w.p.lane y).places := by
  simp only [Work.notReadyResult]
  (repeat' split) <;> simp

@[simp] theorem Work.goodEffect_places (w : Work) (i : SlotIx) (j : JobIx) (r : DataRequest) (a : DataAnswer) (y : LaneIx) :
    ((w.goodEffect i j r a).p.lane y).places = (w.p.lane y).places := by
  simp only [Work.goodEffect]
  (repeat' split) <;> simp

@[simp] theorem Work.setProbe_places (w : Work) (i : SlotIx) (q : ProbePosition) (y : LaneIx) :
    ((w.setProbe i q).p.lane y).places = (w.p.lane y).places := by
  simp only [Work.setProbe]
  simp

@[simp] theorem Work.checkCapacity_places (w : Work) (i : SlotIx) (j : JobIx) (a : DataAnswer) (y : LaneIx) :
    ((w.checkCapacity i j a).p.lane y).places = (w.p.lane y).places := by
  simp only [Work.checkCapacity]
  (repeat' split) <;> simp

@[simp] theorem Work.scrubFrom_places (w : Work) (i : SlotIx) (j : JobIx) (q : ProbePosition) (k : Nat) (y : LaneIx) :
    ((w.scrubFrom i j q k).p.lane y).places = (w.p.lane y).places := by
  simp only [Work.scrubFrom]
  (repeat' split) <;> simp

@[simp] theorem Work.fakeCapacity_places (w : Work) (i : SlotIx) (j : JobIx) (q : ProbePosition) (y : LaneIx) :
    ((w.fakeCapacity i j q).p.lane y).places = (w.p.lane y).places := by
  simp only [Work.fakeCapacity]
  simp

@[simp] theorem Work.probeWritten_places (w : Work) (i : SlotIx) (q : ProbePosition) (y : LaneIx) :
    ((w.probeWritten i q).p.lane y).places = (w.p.lane y).places := by
  simp only [Work.probeWritten]
  (repeat' split) <;> simp

@[simp] theorem Work.probeJudged_places (w : Work) (i : SlotIx) (j : JobIx) (q : ProbePosition) (intact : Bool) (y : LaneIx) :
    ((w.probeJudged i j q intact).p.lane y).places = (w.p.lane y).places := by
  simp only [Work.probeJudged]
  (repeat' split) <;> simp

@[simp] theorem Work.finishWriting_places (w : Work) (i : SlotIx) (j : JobIx) (y : LaneIx) :
    ((w.finishWriting i j).p.lane y).places = (w.p.lane y).places := by
  simp only [Work.finishWriting]
  (repeat' split) <;> simp

@[simp] theorem Work.chunkEqual_places (w : Work) (i : SlotIx) (j : JobIx) (n : Nat) (y : LaneIx) :
    ((w.chunkEqual i j n).p.lane y).places = (w.p.lane y).places := by
  simp only [Work.chunkEqual]
  (repeat' split) <;> simp

@[simp] theorem Work.chunkAgain_places (w : Work) (i : SlotIx) (j : JobIx) (n : Nat) (y : LaneIx) :
    ((w.chunkAgain i j n).p.lane y).places = (w.p.lane y).places := by
  simp only [Work.chunkAgain]
  simp

@[simp] theorem Work.compareChunk_places (w : Work) (m : Memory) (i : SlotIx) (j : JobIx) (digestError : Bool) (y : LaneIx) :
    ((w.compareChunk m i j digestError).p.lane y).places = (w.p.lane y).places := by
  simp only [Work.compareChunk]
  (repeat' split) <;> simp

@[simp] theorem Work.goodProceed_places (w : Work) (m : Memory) (i : SlotIx) (j : JobIx) (r : DataRequest) (a : DataAnswer) (digestError : Bool) (y : LaneIx) :
    ((w.goodProceed m i j r a digestError).p.lane y).places = (w.p.lane y).places := by
  simp only [Work.goodProceed]
  (repeat' split) <;> simp

@[simp] theorem Work.dataResult_places (w : Work) (m : Memory) (i : SlotIx) (j : JobIx) (r : DataRequest) (c : ResultClass) (a : DataAnswer) (digestError : Bool) (y : LaneIx) :
    ((w.dataResult m i j r c a digestError).p.lane y).places = (w.p.lane y).places := by
  simp only [Work.dataResult]
  (repeat' split) <;> simp

@[simp] theorem Work.lastResult_places (w : Work) (i : SlotIx) (j : JobIx) (r : DataRequest) (c : ResultClass) (a : DataAnswer) (y : LaneIx) :
    ((w.lastResult i j r c a).p.lane y).places = (w.p.lane y).places := by
  simp only [Work.lastResult]
  (repeat' split) <;> simp

@[simp] theorem Work.lampEnd_places (w : Work) (i : SlotIx) (c : Lamp) (good : Bool) (y : LaneIx) :
    ((w.lampEnd i c good).p.lane y).places = (w.p.lane y).places := by
  simp only [Work.lampEnd]
  (repeat' split) <;> simp

@[simp] theorem Work.recordIdentity_places (w : Work) (i : SlotIx) (a : ControlAnswer) (y : LaneIx) :
    ((w.recordIdentity i a).p.lane y).places = (w.p.lane y).places := by
  simp only [Work.recordIdentity]
  (repeat' split) <;> simp

@[simp] theorem Work.nextStep_places (w : Work) (i : SlotIx) (k : ControlKind) (a : ControlAnswer) (y : LaneIx) :
    ((w.nextStep i k a).p.lane y).places = (w.p.lane y).places := by
  simp only [Work.nextStep]
  (repeat' split) <;> simp

@[simp] theorem Work.healthGood_places (w : Work) (l : LaneIx) (good : Bool) (y : LaneIx) :
    ((w.healthGood l good).p.lane y).places = (w.p.lane y).places := by
  simp only [Work.healthGood]
  (repeat' split) <;> simp

@[simp] theorem Work.healthExpired_places (w : Work) (l : LaneIx) (y : LaneIx) :
    ((w.healthExpired l).p.lane y).places = (w.p.lane y).places := by
  simp only [Work.healthExpired]
  simp

/-! ### The tests of a job -/

@[simp] theorem Work.recomputeRelease_slot (w : Work) (j : JobIx) (y : SlotIx) :
    (w.recomputeRelease j).p.slot y = w.p.slot y := by
  simp only [Work.recomputeRelease]
  (repeat' split) <;> simp

@[simp] theorem Work.recomputeRelease_places (w : Work) (j : JobIx) (y : LaneIx) :
    ((w.recomputeRelease j).p.lane y).places = (w.p.lane y).places := by
  simp only [Work.recomputeRelease]
  (repeat' split) <;> simp

@[simp] theorem Work.recomputeRelease_job_ne (w : Work) (j : JobIx) {y : JobIx} (h : y ≠ j) :
    (w.recomputeRelease j).p.job y = w.p.job y := by
  simp only [Work.recomputeRelease]
  (repeat' split) <;> simp [h]

@[simp] theorem Work.evalLag_slot (w : Work) (j : JobIx) (y : SlotIx) :
    (w.evalLag j).p.slot y = w.p.slot y := by
  simp only [Work.evalLag]
  (repeat' split) <;> simp

@[simp] theorem Work.evalLag_places (w : Work) (j : JobIx) (y : LaneIx) :
    ((w.evalLag j).p.lane y).places = (w.p.lane y).places := by
  simp only [Work.evalLag]
  (repeat' split) <;> simp

@[simp] theorem Work.evalLag_job_ne (w : Work) (j : JobIx) {y : JobIx} (h : y ≠ j) :
    (w.evalLag j).p.job y = w.p.job y := by
  simp only [Work.evalLag]
  (repeat' split) <;> simp [h]

@[simp] theorem Work.setJobState_slot (w : Work) (j : JobIx) (st : JobState) (y : SlotIx) :
    (w.setJobState j st).p.slot y = w.p.slot y := by
  simp only [Work.setJobState]
  simp

@[simp] theorem Work.setJobState_places (w : Work) (j : JobIx) (st : JobState) (y : LaneIx) :
    ((w.setJobState j st).p.lane y).places = (w.p.lane y).places := by
  simp only [Work.setJobState]
  simp

@[simp] theorem Work.setJobState_job_ne (w : Work) (j : JobIx) (st : JobState) {y : JobIx} (h : y ≠ j) :
    (w.setJobState j st).p.job y = w.p.job y := by
  simp only [Work.setJobState]
  simp [h]

@[simp] theorem Work.testPaused_slot (w : Work) (j : JobIx) (y : SlotIx) :
    (w.testPaused j).p.slot y = w.p.slot y := by
  simp only [Work.testPaused]
  (repeat' split) <;> simp

@[simp] theorem Work.testPaused_places (w : Work) (j : JobIx) (y : LaneIx) :
    ((w.testPaused j).p.lane y).places = (w.p.lane y).places := by
  simp only [Work.testPaused]
  (repeat' split) <;> simp

@[simp] theorem Work.testPaused_job_ne (w : Work) (j : JobIx) {y : JobIx} (h : y ≠ j) :
    (w.testPaused j).p.job y = w.p.job y := by
  simp only [Work.testPaused]
  (repeat' split) <;> simp [h]

@[simp] theorem Work.testEnded_slot (w : Work) (j : JobIx) (y : SlotIx) :
    (w.testEnded j).p.slot y = w.p.slot y := by
  simp only [Work.testEnded]
  (repeat' split) <;> simp

@[simp] theorem Work.testEnded_places (w : Work) (j : JobIx) (y : LaneIx) :
    ((w.testEnded j).p.lane y).places = (w.p.lane y).places := by
  simp only [Work.testEnded]
  (repeat' split) <;> simp

@[simp] theorem Work.testEnded_job_ne (w : Work) (j : JobIx) {y : JobIx} (h : y ≠ j) :
    (w.testEnded j).p.job y = w.p.job y := by
  simp only [Work.testEnded]
  (repeat' split) <;> simp [h]

@[simp] theorem Work.evalLags_slot (w : Work) (y : SlotIx) :
    (w.evalLags).p.slot y = w.p.slot y := by
  unfold Work.evalLags
  apply foldl_keeps (fun w => w.p.slot y)
  intros
  try dsimp only
  simp

@[simp] theorem Work.evalLags_places (w : Work) (y : LaneIx) :
    ((w.evalLags).p.lane y).places = (w.p.lane y).places := by
  unfold Work.evalLags
  apply foldl_keeps (fun w => (w.p.lane y).places)
  intros
  try dsimp only
  simp

/-- Failing the waiting members touches only READY and DEFERRED slots. -/
theorem Work.failWaiting_slot (w : Work) (j : JobIx) (k : SlotIx)
    (h1 : (w.p.slot k).state ≠ .ready) (h2 : (w.p.slot k).state ≠ .deferred) :
    (w.failWaiting j).p.slot k = w.p.slot k := by
  unfold Work.failWaiting
  generalize allSlots = as
  induction as generalizing w with
  | nil => rfl
  | cons i as ih =>
    rw [List.foldl_cons]
    by_cases e : k = i
    · subst e
      have : ¬((w.p.slot k).memberOf j &&
          (decide ((w.p.slot k).state = .ready) || decide ((w.p.slot k).state = .deferred))) = true := by
        simp [h1, h2]
      simp only [if_neg this]
      exact ih w h1 h2
    · have hs : ∀ w' : Work, w'.p.slot k = w.p.slot k →
          (as.foldl (fun w i =>
            let s := w.p.slot i
            if s.memberOf j && (decide (s.state = .ready) || decide (s.state = .deferred)) then
              w.fail i .jobClosed
            else w) w').p.slot k = w.p.slot k := by
        intro w' hw
        rw [ih w' (by rw [hw]; exact h1) (by rw [hw]; exact h2), hw]
      dsimp only
      split
      · exact hs _ (Work.fail_slot_ne _ _ _ e)
      · exact hs _ rfl

theorem Work.endPass_slot (w : Work) (j : JobIx) (k : SlotIx)
    (h1 : (w.p.slot k).state ≠ .ready) (h2 : (w.p.slot k).state ≠ .deferred) :
    (w.endPass j).p.slot k = w.p.slot k := by
  simp only [Work.endPass]
  split
  · rw [Work.failWaiting_slot] <;> simp [h1, h2]
  · split <;> simp

theorem Work.endPass_slot_open (w : Work) (j : JobIx) (k : SlotIx)
    (h : (w.p.job j).state ≠ .closing) : (w.endPass j).p.slot k = w.p.slot k := by
  simp only [Work.endPass, if_neg h]
  split <;> simp

theorem Work.testPassEnd_slot (w : Work) (j : JobIx) (k : SlotIx)
    (h1 : (w.p.slot k).state ≠ .ready) (h2 : (w.p.slot k).state ≠ .deferred) :
    (w.testPassEnd j).p.slot k = w.p.slot k := by
  simp only [Work.testPassEnd]
  split
  · exact Work.endPass_slot w j k h1 h2
  · rfl

@[simp] theorem Work.endPass_places (w : Work) (j : JobIx) (k : LaneIx) :
    ((w.endPass j).p.lane k).places = (w.p.lane k).places := by
  simp only [Work.endPass]
  (repeat' split) <;> simp

@[simp] theorem Work.testPassEnd_places (w : Work) (j : JobIx) (k : LaneIx) :
    ((w.testPassEnd j).p.lane k).places = (w.p.lane k).places := by
  simp only [Work.testPassEnd]
  split <;> simp

@[simp] theorem Work.jobTests_places (w : Work) (j : JobIx) (k : LaneIx) :
    ((w.jobTests j).p.lane k).places = (w.p.lane k).places := by
  simp [Work.jobTests]

@[simp] theorem Work.memberTests_places (w : Work) (m : Option JobIx) (k : LaneIx) :
    ((w.memberTests m).p.lane k).places = (w.p.lane k).places := by
  cases m <;> simp [Work.memberTests]

/-- The tests of a job touch only slots in READY and DEFERRED. -/
theorem Work.jobTests_slot (w : Work) (j : JobIx) (k : SlotIx)
    (h1 : (w.p.slot k).state ≠ .ready) (h2 : (w.p.slot k).state ≠ .deferred) :
    (w.jobTests j).p.slot k = w.p.slot k := by
  simp only [Work.jobTests, Work.testEnded_slot, Work.testPaused_slot, Work.evalLag_slot]
  rw [Work.testPassEnd_slot] <;> simp [h1, h2]

theorem Work.memberTests_slot (w : Work) (m : Option JobIx) (k : SlotIx)
    (h1 : (w.p.slot k).state ≠ .ready) (h2 : (w.p.slot k).state ≠ .deferred) :
    (w.memberTests m).p.slot k = w.p.slot k := by
  cases m with
  | none => rfl
  | some j => exact Work.jobTests_slot w j k h1 h2

/-- In a job that is not closing, the tests touch no slot. -/
theorem Work.jobTests_slot_open (w : Work) (j : JobIx) (k : SlotIx)
    (h : (w.p.job j).state ≠ .closing) : (w.jobTests j).p.slot k = w.p.slot k := by
  have hr : ((w.recomputeRelease j).p.job j).state = (w.p.job j).state := by
    simp only [Work.recomputeRelease]
    (repeat' split) <;> simp
  simp only [Work.jobTests, Work.testEnded_slot, Work.testPaused_slot, Work.evalLag_slot]
  simp only [Work.testPassEnd]
  split
  · rw [Work.endPass_slot_open _ _ _ (by rw [hr]; exact h)]; simp
  · simp

/-! ### The slot itself -/

/-- Entering a state changes the state, the shown progress and the lamp alone. -/
theorem Work.enterState_slot (w : Work) (i : SlotIx) (st : SlotState) :
    (w.enterState i st).p.slot i = { w.p.slot i with
      state := st, progress := ((w.enterState i st).p.slot i).progress,
      desired := ((w.enterState i st).p.slot i).desired,
      pendingLamp := ((w.enterState i st).p.slot i).pendingLamp } := by
  simp only [Work.enterState, Work.raise_p, Work.touchSlot_p, Work.touchMember_p, Work.refreshLamp,
    Work.pendLamp]
  (repeat' split) <;> simp [Work.refreshMode, Work.refreshProgress]

@[simp] theorem Work.enterState_state (w : Work) (i : SlotIx) (st : SlotState) :
    ((w.enterState i st).p.slot i).state = st := by
  rw [Work.enterState_slot]

@[simp] theorem Work.enterState_member (w : Work) (i : SlotIx) (st : SlotState) :
    ((w.enterState i st).p.slot i).member = (w.p.slot i).member := by
  rw [Work.enterState_slot]

@[simp] theorem Work.enterState_vendor (w : Work) (i : SlotIx) (st : SlotState) :
    ((w.enterState i st).p.slot i).vendor = (w.p.slot i).vendor := by
  rw [Work.enterState_slot]

@[simp] theorem Work.enterState_product (w : Work) (i : SlotIx) (st : SlotState) :
    ((w.enterState i st).p.slot i).product = (w.p.slot i).product := by
  rw [Work.enterState_slot]

@[simp] theorem Work.enterState_serial (w : Work) (i : SlotIx) (st : SlotState) :
    ((w.enterState i st).p.slot i).serial = (w.p.slot i).serial := by
  rw [Work.enterState_slot]

@[simp] theorem Work.enterState_truncated (w : Work) (i : SlotIx) (st : SlotState) :
    ((w.enterState i st).p.slot i).truncated = (w.p.slot i).truncated := by
  rw [Work.enterState_slot]

@[simp] theorem Work.enterState_ifaces (w : Work) (i : SlotIx) (st : SlotState) :
    ((w.enterState i st).p.slot i).ifaces = (w.p.slot i).ifaces := by
  rw [Work.enterState_slot]

@[simp] theorem Work.enterState_iface (w : Work) (i : SlotIx) (st : SlotState) :
    ((w.enterState i st).p.slot i).iface = (w.p.slot i).iface := by
  rw [Work.enterState_slot]

@[simp] theorem Work.enterState_capacityNext (w : Work) (i : SlotIx) (st : SlotState) :
    ((w.enterState i st).p.slot i).capacityNext = (w.p.slot i).capacityNext := by
  rw [Work.enterState_slot]

@[simp] theorem Work.enterState_capacity (w : Work) (i : SlotIx) (st : SlotState) :
    ((w.enterState i st).p.slot i).capacity = (w.p.slot i).capacity := by
  rw [Work.enterState_slot]

@[simp] theorem Work.enterState_nonce (w : Work) (i : SlotIx) (st : SlotState) :
    ((w.enterState i st).p.slot i).nonce = (w.p.slot i).nonce := by
  rw [Work.enterState_slot]

@[simp] theorem Work.enterState_probe (w : Work) (i : SlotIx) (st : SlotState) :
    ((w.enterState i st).p.slot i).probe = (w.p.slot i).probe := by
  rw [Work.enterState_slot]

@[simp] theorem Work.enterState_writeChunk (w : Work) (i : SlotIx) (st : SlotState) :
    ((w.enterState i st).p.slot i).writeChunk = (w.p.slot i).writeChunk := by
  rw [Work.enterState_slot]

@[simp] theorem Work.enterState_writeOffset (w : Work) (i : SlotIx) (st : SlotState) :
    ((w.enterState i st).p.slot i).writeOffset = (w.p.slot i).writeOffset := by
  rw [Work.enterState_slot]

@[simp] theorem Work.enterState_verifyChunk (w : Work) (i : SlotIx) (st : SlotState) :
    ((w.enterState i st).p.slot i).verifyChunk = (w.p.slot i).verifyChunk := by
  rw [Work.enterState_slot]

@[simp] theorem Work.enterState_verifyOffset (w : Work) (i : SlotIx) (st : SlotState) :
    ((w.enterState i st).p.slot i).verifyOffset = (w.p.slot i).verifyOffset := by
  rw [Work.enterState_slot]

@[simp] theorem Work.enterState_written (w : Work) (i : SlotIx) (st : SlotState) :
    ((w.enterState i st).p.slot i).written = (w.p.slot i).written := by
  rw [Work.enterState_slot]

@[simp] theorem Work.enterState_verified (w : Work) (i : SlotIx) (st : SlotState) :
    ((w.enterState i st).p.slot i).verified = (w.p.slot i).verified := by
  rw [Work.enterState_slot]

@[simp] theorem Work.enterState_verifyCrc (w : Work) (i : SlotIx) (st : SlotState) :
    ((w.enterState i st).p.slot i).verifyCrc = (w.p.slot i).verifyCrc := by
  rw [Work.enterState_slot]

@[simp] theorem Work.enterState_attempts (w : Work) (i : SlotIx) (st : SlotState) :
    ((w.enterState i st).p.slot i).attempts = (w.p.slot i).attempts := by
  rw [Work.enterState_slot]

@[simp] theorem Work.enterState_retries (w : Work) (i : SlotIx) (st : SlotState) :
    ((w.enterState i st).p.slot i).retries = (w.p.slot i).retries := by
  rw [Work.enterState_slot]

@[simp] theorem Work.enterState_stickErrors (w : Work) (i : SlotIx) (st : SlotState) :
    ((w.enterState i st).p.slot i).stickErrors = (w.p.slot i).stickErrors := by
  rw [Work.enterState_slot]

@[simp] theorem Work.enterState_notReady (w : Work) (i : SlotIx) (st : SlotState) :
    ((w.enterState i st).p.slot i).notReady = (w.p.slot i).notReady := by
  rw [Work.enterState_slot]

@[simp] theorem Work.enterState_pendingEnd (w : Work) (i : SlotIx) (st : SlotState) :
    ((w.enterState i st).p.slot i).pendingEnd = (w.p.slot i).pendingEnd := by
  rw [Work.enterState_slot]

@[simp] theorem Work.enterState_outcomePending (w : Work) (i : SlotIx) (st : SlotState) :
    ((w.enterState i st).p.slot i).outcomePending = (w.p.slot i).outcomePending := by
  rw [Work.enterState_slot]

@[simp] theorem Work.enterState_attachWaiting (w : Work) (i : SlotIx) (st : SlotState) :
    ((w.enterState i st).p.slot i).attachWaiting = (w.p.slot i).attachWaiting := by
  rw [Work.enterState_slot]

@[simp] theorem Work.enterState_reason (w : Work) (i : SlotIx) (st : SlotState) :
    ((w.enterState i st).p.slot i).reason = (w.p.slot i).reason := by
  rw [Work.enterState_slot]

@[simp] theorem Work.enterState_firstBad (w : Work) (i : SlotIx) (st : SlotState) :
    ((w.enterState i st).p.slot i).firstBad = (w.p.slot i).firstBad := by
  rw [Work.enterState_slot]

@[simp] theorem Work.enterState_honest (w : Work) (i : SlotIx) (st : SlotState) :
    ((w.enterState i st).p.slot i).honest = (w.p.slot i).honest := by
  rw [Work.enterState_slot]

@[simp] theorem Work.enterState_lifeStart (w : Work) (i : SlotIx) (st : SlotState) :
    ((w.enterState i st).p.slot i).lifeStart = (w.p.slot i).lifeStart := by
  rw [Work.enterState_slot]

@[simp] theorem Work.enterState_settle (w : Work) (i : SlotIx) (st : SlotState) :
    ((w.enterState i st).p.slot i).settle = (w.p.slot i).settle := by
  rw [Work.enterState_slot]

@[simp] theorem Work.enterState_backoff (w : Work) (i : SlotIx) (st : SlotState) :
    ((w.enterState i st).p.slot i).backoff = (w.p.slot i).backoff := by
  rw [Work.enterState_slot]

@[simp] theorem Work.enterState_override (w : Work) (i : SlotIx) (st : SlotState) :
    ((w.enterState i st).p.slot i).override = (w.p.slot i).override := by
  rw [Work.enterState_slot]

@[simp] theorem Work.enterState_lastSent (w : Work) (i : SlotIx) (st : SlotState) :
    ((w.enterState i st).p.slot i).lastSent = (w.p.slot i).lastSent := by
  rw [Work.enterState_slot]

@[simp] theorem Work.terminal_state (w : Work) (i : SlotIx) (st : SlotState) (r : Reason) :
    ((w.terminal i st r).p.slot i).state = st := by
  simp [Work.terminal]

@[simp] theorem Work.terminal_reason (w : Work) (i : SlotIx) (st : SlotState) (r : Reason) :
    ((w.terminal i st r).p.slot i).reason = r := by
  simp [Work.terminal]

@[simp] theorem Work.terminal_pendingEnd (w : Work) (i : SlotIx) (st : SlotState) (r : Reason) :
    ((w.terminal i st r).p.slot i).pendingEnd = .none := by
  simp [Work.terminal]

@[simp] theorem Work.terminal_outcomePending (w : Work) (i : SlotIx) (st : SlotState) (r : Reason) :
    ((w.terminal i st r).p.slot i).outcomePending = true := by
  simp [Work.terminal]

@[simp] theorem Work.terminal_member (w : Work) (i : SlotIx) (st : SlotState) (r : Reason) :
    ((w.terminal i st r).p.slot i).member = (w.p.slot i).member := by
  simp [Work.terminal]

@[simp] theorem Work.terminal_vendor (w : Work) (i : SlotIx) (st : SlotState) (r : Reason) :
    ((w.terminal i st r).p.slot i).vendor = (w.p.slot i).vendor := by
  simp [Work.terminal]

@[simp] theorem Work.terminal_product (w : Work) (i : SlotIx) (st : SlotState) (r : Reason) :
    ((w.terminal i st r).p.slot i).product = (w.p.slot i).product := by
  simp [Work.terminal]

@[simp] theorem Work.terminal_serial (w : Work) (i : SlotIx) (st : SlotState) (r : Reason) :
    ((w.terminal i st r).p.slot i).serial = (w.p.slot i).serial := by
  simp [Work.terminal]

@[simp] theorem Work.terminal_truncated (w : Work) (i : SlotIx) (st : SlotState) (r : Reason) :
    ((w.terminal i st r).p.slot i).truncated = (w.p.slot i).truncated := by
  simp [Work.terminal]

@[simp] theorem Work.terminal_ifaces (w : Work) (i : SlotIx) (st : SlotState) (r : Reason) :
    ((w.terminal i st r).p.slot i).ifaces = (w.p.slot i).ifaces := by
  simp [Work.terminal]

@[simp] theorem Work.terminal_iface (w : Work) (i : SlotIx) (st : SlotState) (r : Reason) :
    ((w.terminal i st r).p.slot i).iface = (w.p.slot i).iface := by
  simp [Work.terminal]

@[simp] theorem Work.terminal_capacityNext (w : Work) (i : SlotIx) (st : SlotState) (r : Reason) :
    ((w.terminal i st r).p.slot i).capacityNext = (w.p.slot i).capacityNext := by
  simp [Work.terminal]

@[simp] theorem Work.terminal_capacity (w : Work) (i : SlotIx) (st : SlotState) (r : Reason) :
    ((w.terminal i st r).p.slot i).capacity = (w.p.slot i).capacity := by
  simp [Work.terminal]

@[simp] theorem Work.terminal_nonce (w : Work) (i : SlotIx) (st : SlotState) (r : Reason) :
    ((w.terminal i st r).p.slot i).nonce = (w.p.slot i).nonce := by
  simp [Work.terminal]

@[simp] theorem Work.terminal_writeChunk (w : Work) (i : SlotIx) (st : SlotState) (r : Reason) :
    ((w.terminal i st r).p.slot i).writeChunk = (w.p.slot i).writeChunk := by
  simp [Work.terminal]

@[simp] theorem Work.terminal_writeOffset (w : Work) (i : SlotIx) (st : SlotState) (r : Reason) :
    ((w.terminal i st r).p.slot i).writeOffset = (w.p.slot i).writeOffset := by
  simp [Work.terminal]

@[simp] theorem Work.terminal_verifyChunk (w : Work) (i : SlotIx) (st : SlotState) (r : Reason) :
    ((w.terminal i st r).p.slot i).verifyChunk = (w.p.slot i).verifyChunk := by
  simp [Work.terminal]

@[simp] theorem Work.terminal_verifyOffset (w : Work) (i : SlotIx) (st : SlotState) (r : Reason) :
    ((w.terminal i st r).p.slot i).verifyOffset = (w.p.slot i).verifyOffset := by
  simp [Work.terminal]

@[simp] theorem Work.terminal_written (w : Work) (i : SlotIx) (st : SlotState) (r : Reason) :
    ((w.terminal i st r).p.slot i).written = (w.p.slot i).written := by
  simp [Work.terminal]

@[simp] theorem Work.terminal_verified (w : Work) (i : SlotIx) (st : SlotState) (r : Reason) :
    ((w.terminal i st r).p.slot i).verified = (w.p.slot i).verified := by
  simp [Work.terminal]

@[simp] theorem Work.terminal_verifyCrc (w : Work) (i : SlotIx) (st : SlotState) (r : Reason) :
    ((w.terminal i st r).p.slot i).verifyCrc = (w.p.slot i).verifyCrc := by
  simp [Work.terminal]

@[simp] theorem Work.terminal_attempts (w : Work) (i : SlotIx) (st : SlotState) (r : Reason) :
    ((w.terminal i st r).p.slot i).attempts = (w.p.slot i).attempts := by
  simp [Work.terminal]

@[simp] theorem Work.terminal_retries (w : Work) (i : SlotIx) (st : SlotState) (r : Reason) :
    ((w.terminal i st r).p.slot i).retries = (w.p.slot i).retries := by
  simp [Work.terminal]

@[simp] theorem Work.terminal_stickErrors (w : Work) (i : SlotIx) (st : SlotState) (r : Reason) :
    ((w.terminal i st r).p.slot i).stickErrors = (w.p.slot i).stickErrors := by
  simp [Work.terminal]

@[simp] theorem Work.terminal_notReady (w : Work) (i : SlotIx) (st : SlotState) (r : Reason) :
    ((w.terminal i st r).p.slot i).notReady = (w.p.slot i).notReady := by
  simp [Work.terminal]

@[simp] theorem Work.terminal_attachWaiting (w : Work) (i : SlotIx) (st : SlotState) (r : Reason) :
    ((w.terminal i st r).p.slot i).attachWaiting = (w.p.slot i).attachWaiting := by
  simp [Work.terminal]

@[simp] theorem Work.terminal_firstBad (w : Work) (i : SlotIx) (st : SlotState) (r : Reason) :
    ((w.terminal i st r).p.slot i).firstBad = (w.p.slot i).firstBad := by
  simp [Work.terminal]

@[simp] theorem Work.terminal_honest (w : Work) (i : SlotIx) (st : SlotState) (r : Reason) :
    ((w.terminal i st r).p.slot i).honest = (w.p.slot i).honest := by
  simp [Work.terminal]

@[simp] theorem Work.terminal_lifeStart (w : Work) (i : SlotIx) (st : SlotState) (r : Reason) :
    ((w.terminal i st r).p.slot i).lifeStart = (w.p.slot i).lifeStart := by
  simp [Work.terminal]

@[simp] theorem Work.terminal_settle (w : Work) (i : SlotIx) (st : SlotState) (r : Reason) :
    ((w.terminal i st r).p.slot i).settle = (w.p.slot i).settle := by
  simp [Work.terminal]

@[simp] theorem Work.terminal_override (w : Work) (i : SlotIx) (st : SlotState) (r : Reason) :
    ((w.terminal i st r).p.slot i).override = (w.p.slot i).override := by
  simp [Work.terminal]

@[simp] theorem Work.terminal_lastSent (w : Work) (i : SlotIx) (st : SlotState) (r : Reason) :
    ((w.terminal i st r).p.slot i).lastSent = (w.p.slot i).lastSent := by
  simp [Work.terminal]

/-- A life that fails is FAILED with its reason. -/
@[simp] theorem Work.fail_state (w : Work) (i : SlotIx) (r : Reason) :
    ((w.fail i r).p.slot i).state = .failed := by
  simp [Work.fail]

@[simp] theorem Work.fail_reason (w : Work) (i : SlotIx) (r : Reason) :
    ((w.fail i r).p.slot i).reason = r := by
  simp [Work.fail]

end Sys2Proof.Machine
end

