-- ==== Sys2Proof/Laws/Reports.lean ====
section
/-! SUPPORT. What a command reports: which causes a committed work raises, where its units lie, and what
the end of a host command leaves. -/

namespace Sys2Proof.Machine

/-! ### Causes -/

theorem bit_or_left {a b c : BitVec 11} (h : a &&& c = c) : (a ||| b) &&& c = c := by
  ext i hi
  have := congrArg (fun v : BitVec 11 => v[i]) h
  simp only [BitVec.getElem_and, Bool.and_eq_right_iff_imp] at this
  simp only [BitVec.getElem_and, BitVec.getElem_or, Bool.and_eq_right_iff_imp, Bool.or_eq_true]
  exact fun hc => Or.inl (this hc)

theorem bit_or_right {a b c : BitVec 11} (h : b &&& c = c) : (a ||| b) &&& c = c := by
  rw [BitVec.or_comm]; exact bit_or_left h

/-- A cause raised in every engine state is set. -/
theorem commit_has_now (s : State) (w : Work) (c : Cause) (h : w.out.now &&& c.bit = c.bit) :
    (commit s w).port.has c := by
  simp only [Port.has, commit_port, Work.causesAfter]
  split
  · exact bit_or_right (bit_or_left h)
  · exact bit_or_right h

/-- A cause raised by a reporting engine is set. -/
theorem commit_has_cause (s : State) (w : Work) (c : Cause) (hr : w.p.reports = true)
    (h : w.out.causes &&& c.bit = c.bit) : (commit s w).port.has c := by
  simp only [Port.has, commit_port, Work.causesAfter, hr, if_true]
  exact bit_or_right (bit_or_right h)

/-- A cause just raised is among the causes. -/
theorem raise_causes (w : Work) (c : Cause) : (w.raise c).out.causes &&& c.bit = c.bit := by
  simp only [Work.raise_causes]
  exact bit_or_right (BitVec.and_self)

theorem raiseNow_now (w : Work) (c : Cause) : (w.raiseNow c).out.now &&& c.bit = c.bit := by
  simp only [Work.raiseNow_now]
  exact bit_or_right (BitVec.and_self)

/-! ### The lengths and places of the status entries -/

@[simp] theorem length_jobEntry (p : Part) (j : JobIx) : (jobEntry p j).length = 64 := by
  unfold jobEntry
  dsimp only
  repeat rw [List.length_append]
  repeat rw [length_leBytes]

@[simp] theorem length_boardEntry (b : Board) : (boardEntry b).length = 8 := by
  simp only [boardEntry, List.length_append, length_leBytes]

@[simp] theorem length_laneEntry (l : Lane) : (laneEntry l).length = 8 := by
  simp only [laneEntry, List.length_append, length_leBytes]

@[simp] theorem length_mirrorEntry (s : Slot) : (mirrorEntry s).length = 8 := by
  simp only [mirrorEntry, List.length_append, length_leBytes]

@[simp] theorem length_digestBytesOf (c : Word) (k : ChunkClass) : (digestBytesOf c k).length = 8 := by
  simp only [digestBytesOf, List.length_append, length_leBytes]

@[simp] theorem length_serialField (s : List Byte) : (serialField s).length = 32 := by
  simp [serialField]

@[simp] theorem length_outcomeBytes (n : Word) (o : OutcomeRecord) :
    (outcomeBytes n o).length = 128 := by
  unfold outcomeBytes
  repeat rw [List.length_append]
  repeat rw [length_leBytes]
  rw [length_serialField]

/-- A unit of the part's own fields of the exchange block (R168). -/
def StatusUnit (u : Nat × List Byte) : Prop := 0x100 ≤ u.1 ∧ u.1 + u.2.length ≤ 0x1000

theorem mirrorUnit_status (p : Part) (i : SlotIx) : StatusUnit (mirrorUnit p i) := by
  have := i.isLt
  simp [StatusUnit, mirrorUnit, mirrorOffset]; omega

theorem jobUnit_status (p : Part) (j : JobIx) : StatusUnit (jobUnit p j) := by
  have := j.isLt
  simp [StatusUnit, jobUnit, jobOffset]; omega

theorem laneUnit_status (p : Part) (l : LaneIx) : StatusUnit (laneUnit p l) := by
  have := l.isLt
  simp [StatusUnit, laneUnit, laneOffset]; omega

theorem boardUnit_status (p : Part) (b : LaneIx) : StatusUnit (boardUnit p b) := by
  have := b.isLt
  simp [StatusUnit, boardUnit, boardOffset]; omega

theorem clockUnit_status (w : Work) : ∀ u ∈ w.clockUnit, StatusUnit u := by
  intro u hu
  simp only [Work.clockUnit] at hu
  split at hu
  · simp only [List.mem_singleton] at hu
    subst hu
    simp [StatusUnit]
  · simp at hu

/-- The status entries that a work writes lie in the part's fields. -/
theorem statusUnits_status (w : Work) : ∀ u ∈ w.statusUnits, StatusUnit u := by
  intro u hu
  simp only [Work.statusUnits, List.mem_append] at hu
  rcases hu with hu | hu
  · obtain ⟨j, -, rfl⟩ := List.mem_map.mp hu
    exact jobUnit_status _ _
  · split at hu
    · simp only [List.mem_append, List.mem_map] at hu
      rcases hu with ((⟨x, -, rfl⟩ | ⟨x, -, rfl⟩) | ⟨x, -, rfl⟩) | ⟨x, -, rfl⟩
      · exact mirrorUnit_status _ _
      · exact jobUnit_status _ _
      · exact laneUnit_status _ _
      · exact boardUnit_status _ _
    · simp at hu

/-- The units of a work lie in the part's fields when the units it wrote itself do. -/
theorem units_status (w : Work) (h : ∀ u ∈ w.out.writes ++ w.out.last, StatusUnit u) :
    ∀ u ∈ w.units ++ w.clockUnit, StatusUnit u := by
  intro u hu
  rcases List.mem_append.mp hu with hu | hu
  · simp only [Work.units, List.mem_append] at hu
    rcases hu with (hu | hu) | hu
    · exact h u (List.mem_append_left _ hu)
    · exact statusUnits_status w u hu
    · exact h u (List.mem_append_right _ hu)
  · exact clockUnit_status w u hu

/-- A work that wrote only part-owned fields leaves every byte outside them as it was. -/
theorem commit_foreign (s : State) (w : Work) (h : ∀ u ∈ w.out.writes ++ w.out.last, StatusUnit u)
    (a : Nat) (ha : a < 0x100 ∨ 0x1000 ≤ a) : (commit s w).mem.read a = s.mem.read a := by
  rw [commit_mem]
  apply Memory.read_applyUnits_outside
  intro u hu
  have := units_status w h u hu
  simp only [StatusUnit] at this
  omega

/-! ### The end of a host command -/

/-- The units of a command's end (R172). -/
def resultUnits (c : CommandCell) (r : ResultCode) (w1 w2 : Word) : List (Nat × List Byte) :=
  [(0x108, leBytes 4 w1.toNat), (0x10C, leBytes 4 w2.toNat), (0x104, leBytes 4 r.code),
   (0x100, leBytes 4 c.count.toNat)]

/-- What the end of a command does to the part (R172). -/
theorem Work.endCommand_p (w : Work) (c : CommandCell) (r : ResultCode) (w1 w2 : Word) :
    (w.endCommand c r w1 w2).p = { w.p with
      resultCode := r, result1 := w1, result2 := w2, doneCount := c.count,
      command := if w.p.engine = .enabled ∧ w.p.latestCount ≠ c.count then .readingCell
        else .idle } := rfl

/-- What the end of a command hands over (R172). -/
theorem Work.endCommand_out (w : Work) (c : CommandCell) (r : ResultCode) (w1 w2 : Word) :
    (w.endCommand c r w1 w2).out = { w.out with
      last := w.out.last ++ resultUnits c r w1 w2,
      now := w.out.now ||| Cause.commandDone.bit } := by
  simp [Work.endCommand, Work.raiseNow, Work.putLast, resultUnits]

/-- The results of a command are its last window writes: the status entries of the jobs it changed precede
them (R13, R15). -/
theorem Work.endCommand_units (w : Work) (c : CommandCell) (r : ResultCode) (w1 w2 : Word) :
    (w.endCommand c r w1 w2).units =
      w.out.writes ++ (w.endCommand c r w1 w2).statusUnits ++ w.out.last ++ resultUnits c r w1 w2 := by
  simp [Work.units, Work.endCommand_out]

/-- So they are for a job command whose reports do not wait (R166). -/
theorem Work.reportCommandJobs_units (w : Work) (c : CommandCell) (r : ResultCode) (w1 w2 : Word) :
    (w.endCommand c r w1 w2).reportCommandJobs.units =
      w.out.writes ++ (w.endCommand c r w1 w2).reportCommandJobs.statusUnits ++ w.out.last ++
        resultUnits c r w1 w2 := by
  simp [Work.units, Work.endCommand_out]

@[simp] theorem Work.endCommand_slot (w : Work) (c : CommandCell) (r : ResultCode) (w1 w2 : Word)
    (i : SlotIx) : (w.endCommand c r w1 w2).p.slot i = w.p.slot i := rfl

@[simp] theorem Work.endCommand_job (w : Work) (c : CommandCell) (r : ResultCode) (w1 w2 : Word)
    (j : JobIx) : (w.endCommand c r w1 w2).p.job j = w.p.job j := rfl

@[simp] theorem Work.endCommand_lane (w : Work) (c : CommandCell) (r : ResultCode) (w1 w2 : Word)
    (l : LaneIx) : (w.endCommand c r w1 w2).p.lane l = w.p.lane l := rfl

@[simp] theorem Work.endCommand_board (w : Work) (c : CommandCell) (r : ResultCode) (w1 w2 : Word)
    (b : LaneIx) : (w.endCommand c r w1 w2).p.board b = w.p.board b := rfl

@[simp] theorem Work.endCommand_mapOf (w : Work) (c : CommandCell) (r : ResultCode) (w1 w2 : Word)
    (i : SlotIx) : (w.endCommand c r w1 w2).p.mapOf i = w.p.mapOf i := rfl

/-- A command that ended and reported no more has ended so. -/
theorem endedWith_endCommand (s : State) (w : Work) (c : CommandCell) (r : ResultCode)
    (w1 w2 : Word) : EndedWith (commit s (w.endCommand c r w1 w2)) c r w1 w2 :=
  ⟨rfl, rfl, rfl, rfl, commit_has_now _ _ _ (raiseNow_now _ _)⟩

/-- The end of a job command that has its effect. -/
theorem endedWith_reportCommandJobs (s : State) (w : Work) (c : CommandCell) (r : ResultCode)
    (w1 w2 : Word) :
    EndedWith (commit s ((w.endCommand c r w1 w2).reportCommandJobs)) c r w1 w2 := by
  refine ⟨rfl, rfl, rfl, rfl, commit_has_now _ _ _ ?_⟩
  rw [Work.reportCommandJobs_now, Work.endCommand_out]
  exact bit_or_left (bit_or_right BitVec.and_self)

/-- The cause JOB_CHANGED of a command does not wait. -/
theorem reportCommandJobs_has (s : State) (w : Work)
    (h : w.out.causes &&& Cause.jobChanged.bit = Cause.jobChanged.bit) :
    (commit s (w.reportCommandJobs)).port.has .jobChanged := by
  apply commit_has_now
  rw [Work.reportCommandJobs_now]
  apply bit_or_right
  rw [BitVec.and_assoc, BitVec.and_self]
  exact h

/-- A refusal is a refusal: it changes its results alone and writes only them and the clock. -/
theorem refusedWith_endCommand (s : State) (c : CommandCell) (r : ResultCode) (w1 w2 : Word) :
    RefusedWith s (commit s ((Work.start s).endCommand c r w1 w2)) c r w1 w2 := by
  refine ⟨endedWith_endCommand s _ c r w1 w2, by simp [Work.endCommand_p], ?_⟩
  intro a h1 h2
  rw [commit_mem]
  apply Memory.read_applyUnits_outside
  intro u hu
  rcases List.mem_append.mp hu with hu | hu
  · have : u ∈ resultUnits c r w1 w2 := by
      revert hu
      simp only [Work.endCommand_units, Work.statusUnits, Work.endCommand_out, Work.start_out, Out.none]
      split <;> simp
    simp only [resultUnits, List.mem_cons, List.not_mem_nil, or_false] at this
    rcases this with rfl | rfl | rfl | rfl <;> simp <;> omega
  · simp only [Work.clockUnit] at hu
    split at hu
    · simp only [List.mem_singleton] at hu
      subst hu
      simp; omega
    · simp at hu

end Sys2Proof.Machine
end

