-- ==== Sys2Proof/Tests/Slice0.lean ====
section
/-! SUPPORT. Tests: operands that the checks refuse, each command on a small state, and for every
obligation with hypotheses a concrete case that meets them. -/

namespace Sys2Proof.Tests

open Sys2Proof.Machine

set_option Elab.async false

/-! ### Small states -/

/-- A state with its part changed. -/
def withPart (s : State) (g : Part → Part) : State := { s with part := g s.part }

/-- A state with operations of the blocks applied to its part, nothing handed over. -/
def on (s : State) (g : Work → Work) : State := { s with part := (g (Work.start s)).p }

/-- What a command leaves has a property. -/
def gives (c : Instr) (s : State) (p : State → Bool) : Bool :=
  match exec c s with
  | .next t => p t
  | _ => false

/-- A cause flag is set. -/
def raised (t : State) (c : Cause) : Bool := decide (t.port.cause &&& c.bit = c.bit)

/-- After reset, with the engine enabled. -/
def live : State := withPart State.reset (fun p => { p with engine := .enabled })

/-- An enabled engine with lane 0 UP, and board 0 ON with every port ON. -/
def tower : State :=
  on live (fun w => (w.modLane 0 (fun l => { l with state := .up })).modBoard 0
    (fun b => { b with state := .on, switchOn := true, due := some 16, mode := .quiet,
                       ports := Vector.replicate 16 .on }))

/-- A running job of four chunks of 128 blocks, window depth 4, two chunks taken in. -/
def runningJob : Job :=
  { Job.reset with
    state := .running, passActive := true, extents := [{ first := 0, count := 512, kind := .fill }],
    span := 512, chunkSize := 128, chunks := 4, blocks := 512, priority := 2, passNo := 1, v := 2,
    p := 2, i := 2, d := 2,
    record := { JobRecord.zero with stagingOffset := 0x10000, digestOffset := 0x8000, lagHold := 100,
                                    k := 7, depth := 4, policy := .defer, priority := 2 } }

/-- The tower with a job 1. -/
def withJob (c : Job) : State := on tower (fun w => w.modJob 1 (fun _ => c))

/-- The tower with slot 5 a member of the running job 1 in a state. -/
def seated (st : SlotState) : State :=
  on (withJob runningJob) (fun w => w.modSlot 5 (fun s => { s with state := st, member := some 1 }))

/-- The seated slot of that state changed. -/
def seatedWith (st : SlotState) (g : Slot → Slot) : State := on (seated st) (fun w => w.modSlot 5 g)

/-- Slot 5 has a transaction in flight, its timer at a value. -/
def inFlight (t : Transaction) (timer : Nat) (s : State) : State :=
  let pl : Place := { port := 5, address := t.address 5, transaction := t, timer := timer, timeout := 2000,
                      disowned := false }
  on s (fun w => w.modLane 0 (fun l => { l with places := l.places.set 0 (some pl) }))

/-- A command cell with count 7. -/
def cell (code : Half) (job : Byte) (param0 : Word) : CommandCell :=
  { count := 7, code := code, job := job, slot := 5, slotCount := 2, param0 := param0, param1 := 0,
    param2 := 0, param3 := 0 }

/-- The command unit does this. -/
def unit (u : CommandUnit) (s : State) : State :=
  withPart s (fun p => { p with command := u, latestCount := 7 })

/-- The command unit executes a cell. -/
def issued (c : CommandCell) (s : State) : State := unit (.executing c) s

/-- A scan waits for a read. -/
def scanning (r : ScanRead) (s : State) : State :=
  withPart s (fun p => { p with scan := .inFlight r false })

/-- A result word of a command that ended so. -/
def ended (t : State) (r : ResultCode) (w1 w2 : Word) : Bool :=
  decide (t.part.doneCount = 7) && decide (t.part.resultCode = r) && decide (t.part.result1 = w1) &&
    decide (t.part.result2 = w2) && raised t .commandDone

/-- The little-endian cells of a word. -/
def wordCells (a v : Nat) : List Host.Cell :=
  [(a, BitVec.ofNat 8 v), (a + 1, BitVec.ofNat 8 (v / 256)), (a + 2, BitVec.ofNat 8 (v / 65536)),
   (a + 3, BitVec.ofNat 8 (v / 16777216))]

/-- The last exchange of a bring-up, its timer at a value. -/
def lastStep (timer : Nat) : Tree :=
  { step := .portPower 15, request := .setPower 5 4 true, timer := timer, overcurrent := 0 }

/-- A DATA answer with a passed status. -/
def passedAnswer (tag : Word) (moved : Nat) : DataAnswer :=
  { commandStalled := false, dataStalled := false, moved := moved, data := [], lastBlock := 0,
    blockLength := 512, status := .replied 13 0x53425355 tag 0 .passed, sense := .stalled }

/-- A DATA answer with a failed status and a sense category. -/
def failedAnswer (tag : Word) (c : SenseCategory) : DataAnswer :=
  { passedAnswer tag 0 with
    status := .replied 13 0x53425355 tag 0 .failed, sense := .replied .passed 0 c }

/-- The image write of the last chunk's first half. -/
def write64 : DataRequest := { kind := .imageWrite, first := 0, count := 64 }

/-! ### Operands that the checks refuse -/

theorem test_wf_host_outside : (Instr.attention 0 [(1073741824, 1)]).wf = false := by decide

theorem test_wf_host_inside : (Instr.attention 0 [(1073741823, 1)]).wf = true := by decide

theorem test_wf_register_named :
    [0x04, 0x08, 0x0C, 0x10].all (fun o => !(Instr.registerWrite o 0).wf) = true := by decide

theorem test_wf_register_reserved : (Instr.registerWrite 0 0).wf = true := by decide

theorem test_wf_more_data_than_moved :
    (Instr.transactionCompletion 5 (.data { passedAnswer 0 0 with data := [1] }) false []).wf = false :=
  by decide

/-! ### Each command on a small state -/

/-- Straps of a small tower: four boards, 512 MiB, 40 MHz. -/
def fourBoards : Straps := { lanes := 3, memory1GiB := false, reference40MHz := true }

theorem test_powerOnReset : gives (.powerOnReset fourBoards) { tower with mem := [(5, 1)] } (fun t =>
    decide (t.mem = []) && decide (t.part.engine = .notEnabled) &&
      decide ((t.part.lane 3).state = .down) && decide ((t.part.lane 4).state = .absent) &&
      decide ((t.part.board 4).state = .unfitted) &&
      decide (t.readRegister 0 = some 0x2F560134)) = true := by decide +kernel

theorem test_pinReset : gives (.pinReset fourBoards) { tower with mem := [(5, 1)] } (fun t =>
    decide (t.mem = [(5, 1)]) && decide (t.part.straps = fourBoards) &&
      decide ((t.part.board 0).switchOn = false)) = true := by decide +kernel

theorem test_softReset : gives (.softReset true) { tower with mem := [(5, 1)] } (fun t =>
    decide (t.mem = [(5, 1)]) && decide (t.part.straps = tower.part.straps) &&
      decide (t.part.engine = .notEnabled) && decide ((t.part.lane 0).state = .down)) = true := by
  decide +kernel

theorem test_enable : gives .enable State.reset (fun t =>
    decide (t.part.engine = .enabled) && decide ((t.part.board 15).state = .ramping) &&
      decide ((t.part.board 15).due = some 0) &&
      decide (t.part.scan = .inFlight .commandCount false) && raised t .railEvent) = true := by
  decide +kernel

theorem test_enable_deferred :
    gives .enable { State.reset with port := { Port.reset with deferred := 0x42 } } (fun t =>
      raised t .slotChanged && raised t .rewindNeeded && decide (t.port.deferred = 0)) = true := by
  decide +kernel

theorem test_quiesce_idle : gives .quiesce live (fun t =>
    decide (t.part.engine = .notEnabled) && raised t .quiesced) = true := by decide +kernel

theorem test_quiesce_busy : gives .quiesce (scanning .consumed live) (fun t =>
    decide (t.part.engine = .quiescing) && !raised t .quiesced &&
      decide (t.part.scan = .ending .consumed false) &&
      decide (t.readRegister 4 = some 1)) = true := by decide +kernel

theorem test_engineQuiesced :
    gives .engineQuiesced (withPart live (fun p => { p with engine := .quiescing })) (fun t =>
      decide (t.part.engine = .notEnabled) && raised t .quiesced) = true := by decide +kernel

theorem test_attention : gives (.attention 9 [(0x20, 1)]) live (fun t =>
    decide (t.part.scan = .inFlight .commandCount false) && decide (t.mem = [(0x20, 1)])) = true := by
  decide +kernel

theorem test_attention_ignored : gives (.attention 9 []) State.reset (fun t =>
    decide (t.part.scan = .idle)) = true := by decide +kernel

theorem test_causeClear : gives (.causeClear 0x6) { live with port := { Port.reset with cause := 0x7 } }
    (fun t => decide (t.port.cause = 0x1)) = true := by decide +kernel

theorem test_causeEnableWrite : gives (.causeEnableWrite 0xFFFFF801) live (fun t =>
    decide (t.port.causeEnable = 0x1)) = true := by decide +kernel

theorem test_interruptLine :
    ({ cause := 0x201, causeEnable := 0x200, deferred := 0 } : Port).interruptLine = true ∧
      ({ cause := 0x001, causeEnable := 0x200, deferred := 0 } : Port).interruptLine = false := by
  decide

theorem test_registerWrite : exec (.registerWrite 0 5) live = .next live := rfl

/-- The commands that control writes are (R164, R179): bits 31:2 are ignored. -/
theorem test_controlCommand : registerCommand 0x04 0xFFFFFFFF = .softReset true ∧
    registerCommand 0x04 2 = .softReset false ∧ registerCommand 0x04 0xFFFFFFFD = .enable ∧
    registerCommand 0x04 0xFFFFFFFC = .quiesce := by decide

theorem test_scanIntervalExpiry :
    gives .scanIntervalExpiry (withPart live (fun p => { p with scanTimer := 10 })) (fun t =>
      decide (t.part.scanTimer = 0) && decide (t.part.scan = .inFlight .commandCount false)) = true := by
  decide +kernel

theorem test_commandCountRead :
    gives (.commandCountRead false (wordCells 0 7)) (scanning .commandCount live) (fun t =>
      decide (t.part.command = .readingCell) && decide (t.part.latestCount = 7) &&
      decide (t.part.scan = .inFlight (.publish 0) false)) = true := by decide +kernel

theorem test_publishFieldRead :
    gives (.publishFieldRead 1 false (wordCells 0x28 1 ++ wordCells 0x2C 3))
      (scanning (.publish 1) (seated .writing)) (fun t =>
        decide ((t.part.job 1).v = 3) && decide ((t.part.job 1).p = 3) &&
          decide (t.part.faultCode = .none)) = true := by decide +kernel

theorem test_publishFieldRead_overrun :
    gives (.publishFieldRead 1 false (wordCells 0x28 1 ++ wordCells 0x2C 9))
      (scanning (.publish 1) (seated .writing)) (fun t =>
        decide ((t.part.job 1).v = 9) && decide ((t.part.job 1).p = 4) &&
          decide (t.part.faultCode = .publishOverrun) && decide (t.part.faultDetail = 1) &&
          decide (t.mem.value 0x114 2 = 0x102) && raised t .fault) = true := by decide +kernel

/-- A read error in a scan ended by a quiesce is reported; a value is discarded (R170). -/
theorem test_publishFieldRead_ending :
    let s := withPart (seated .writing) (fun p =>
      { p with engine := .quiescing, scan := .ending (.publish 1) false })
    gives (.publishFieldRead 1 true []) s (fun t => decide (t.part.scan = .idle) &&
      decide (t.part.faultCode = .areaRead) && decide (t.part.faultDetail = 6) && raised t .fault) = true ∧
    gives (.publishFieldRead 1 false (wordCells 0x28 1 ++ wordCells 0x2C 3)) s (fun t =>
      decide (t.part.scan = .idle) && decide ((t.part.job 1).v = 2) && !raised t .fault) = true := by
  decide +kernel

/-- Two records written, none consumed. -/
def twoWritten : State :=
  withPart live (fun p => { p with outcomes := { p.outcomes with written := 2, capacity := 16 } })

theorem test_consumedCountRead :
    gives (.consumedCountRead false (wordCells 0x40 2)) (scanning .consumed twoWritten) (fun t =>
      decide (t.part.outcomes.held = 2) && decide (t.part.scan = .idle)) = true := by decide +kernel

theorem test_consumedCountRead_ahead :
    gives (.consumedCountRead false (wordCells 0x40 3)) (scanning .consumed twoWritten) (fun t =>
      decide (t.part.outcomes.held = 0) && decide (t.part.refused = some 3) &&
        decide (t.part.faultCode = .consumedAhead) && raised t .fault) = true := by decide +kernel

theorem test_commandSnapshotReturn :
    gives (.commandSnapshotReturn false (wordCells 0 7 ++ wordCells 4 0x00010012))
      (unit .readingCell live) (fun t => match t.part.command with
        | .executing c => decide (c.count = 7) && decide (c.code = codePauseJob) && decide (c.job = 1)
        | _ => false) = true := by decide +kernel

theorem test_unknownCommand : gives .unknownCommand (issued (cell 0x99 0 0) live) (fun t =>
    ended t .unknownCommand 0 0 && decide (t.mem.word 0x104 = 2) && decide (t.mem.word 0x100 = 7) &&
      decide (t.part.command = .idle)) = true := by decide +kernel

theorem test_applySettings : gives .applySettings (issued (cell codeApplySettings 0 0) live) (fun t =>
    decide (t.part.command = .readingSettings (cell codeApplySettings 0 0))) = true := by decide +kernel

/-- A record of zeros clamps to the lowest values: mask bits 1, 3, 4, 5, 6, 7. -/
theorem test_readSettings : (readSettings []).mask = 250 ∧
    (readSettings []).settings.dataTimeout = 100 ∧ (readSettings []).settings.settleTime = 16 ∧
    (readSettings []).settings.sagLevel = 1 ∧ (readSettings []).settings.indicators = false ∧
    (readSettings []).capacity = 0 := by decide +kernel

theorem test_settingsRecordReadDone :
    gives (.settingsRecordReadDone true []) (unit (.readingSettings (cell codeApplySettings 0 0)) live)
      (fun t => ended t .badRecord 15 0 && decide (t.part.settings = .default) &&
        decide (t.part.faultCode = .areaRead) && decide (t.part.faultDetail = 0)) = true := by
  decide +kernel

/-- A new outcome list of K records at an offset. -/
def newList (k offset : Nat) : SettingsSnapshot :=
  { settings := .default, capacity := k, offset := offset, mask := 0 }

theorem test_outcomeListChangeJudge :
    gives .outcomeListChangeJudge
      (unit (.judgingList (cell codeApplySettings 0 0) (newList 256 0x8000)) (seated .writing)) (fun t =>
        ended t .areaConflict 5 1 && decide (t.part.outcomes.capacity = 0)) = true := by decide +kernel

theorem test_defineJob : gives .defineJob (issued (cell codeDefineJob 1 0x2000) live) (fun t =>
    decide (t.part.command = .readingJobRecord (cell codeDefineJob 1 0x2000) 1 0x2000)) = true := by
  decide +kernel

/-- A job record at 0x2000: one extent at 0x3000, staging 0x10000, digests 0x8000, k 7, W 4. -/
def recordCells : List Host.Cell :=
  wordCells 0x2000 0x3000 ++ wordCells 0x2004 1 ++ wordCells 0x2008 0x10000 ++
    wordCells 0x200C 0x8000 ++ wordCells 0x2014 0x04070064 ++ wordCells 0x2018 1 ++ wordCells 0x201C 2

theorem test_jobRecordReadDone :
    gives (.jobRecordReadDone false recordCells)
      (unit (.readingJobRecord (cell codeDefineJob 1 0x2000) 1 0x2000) live) (fun t =>
        decide (t.part.command = .readingExtents (cell codeDefineJob 1 0x2000) 1 runningJob.record
          0x3000 1 [])) = true := by decide +kernel

theorem test_jobRecordReadDone_chunkSize :
    gives (.jobRecordReadDone false [])
      (unit (.readingJobRecord (cell codeDefineJob 1 0x2000) 1 0x2000) live) (fun t =>
        ended t .badRecord 1 0) = true := by decide +kernel

/-- The command unit waits for the only extent of job 1. -/
def lastExtent : State :=
  unit (.readingExtents (cell codeDefineJob 1 0x2000) 1 runningJob.record 0x3000 1 []) live

theorem test_extentEntryRead :
    gives (.extentEntryRead false (wordCells 0x3004 512 ++ wordCells 0x3008 2)) lastExtent (fun t =>
      ended t .done 4 512 && decide ((t.part.job 1).state = .standby) &&
        decide ((t.part.job 1).chunks = 4) && decide ((t.part.job 1).span = 512) &&
        decide ((t.part.job 1).priority = 2) && raised t .jobChanged) = true := by decide +kernel

theorem test_extentEntryRead_empty :
    gives (.extentEntryRead false (wordCells 0x3008 2)) lastExtent (fun t =>
      ended t .badRecord 5 0 && decide ((t.part.job 1).state = .vacant)) = true := by decide +kernel

theorem test_setPriority :
    gives .setPriority (issued (cell codeSetPriority 1 3) (seated .ready)) (fun t =>
      ended t .done 0 0 && decide ((t.part.job 1).priority = 3) && !raised t .jobChanged) = true := by
  decide +kernel

theorem test_pauseJob :
    gives .pauseJob (issued (cell codePauseJob 1 0) (seated .writing)) (fun t =>
      ended t .done 0 0 && decide ((t.part.job 1).state = .paused) &&
        decide ((t.part.job 1).remembered = .running) && raised t .jobChanged) = true := by
  decide +kernel

theorem test_pauseJob_inFlight :
    gives .pauseJob (issued (cell codePauseJob 1 0) (inFlight (.data write64 3) 0 (seated .writing)))
      (fun t => decide ((t.part.job 1).state = .pausing)) = true := by decide +kernel

theorem test_resumeJob :
    gives .resumeJob (issued (cell codeResumeJob 1 0)
      (withJob { runningJob with state := .paused, remembered := .running })) (fun t =>
        ended t .done 0 0 && decide ((t.part.job 1).state = .running)) = true := by decide +kernel

/-- The tower with slot 5 a member of a standing job 1 in a state. -/
def standing (st : SlotState) : State :=
  on (withJob { runningJob with state := .standby, passActive := false }) (fun w =>
    w.modSlot 5 (fun s => { s with state := st, member := some 1 }))

theorem test_closeJob :
    gives .closeJob (issued (cell codeCloseJob 1 0) (withJob { runningJob with state := .paused }))
      (fun t => ended t .wrongState 0 0 && decide ((t.part.job 1).state = .paused)) = true := by
  decide +kernel

theorem test_abortJob :
    gives .abortJob (issued (cell codeAbortJob 1 0) (inFlight (.data write64 3) 0 (seated .writing)))
      (fun t => decide ((t.part.job 1).state = .aborting) &&
        decide ((t.part.slot 5).state = .writing) &&
        decide ((t.part.slot 5).pendingEnd = .aborted)) = true := by decide +kernel

theorem test_releaseJob :
    gives .releaseJob (issued (cell codeReleaseJob 1 0) (on (withJob { runningJob with state := .ended })
      (fun w => w.modSlot 5 (fun s => { s with state := .passed, member := some 1 })))) (fun t =>
        ended t .done 0 0 && decide ((t.part.job 1).state = .vacant) &&
          decide ((t.part.slot 5).member = none) && decide ((t.part.slot 5).state = .passed)) =
      true := by decide +kernel

theorem test_startPass :
    gives .startPass (issued (cell codeStartPass 1 0) (standing .ready)) (fun t =>
      ended t .done 2 1 && decide ((t.part.job 1).state = .running) &&
        decide ((t.part.job 1).passActive = true) && decide ((t.part.job 1).i = 0) &&
        decide ((t.part.job 1).d = 2) && decide ((t.part.slot 5).state = .writing)) = true := by
  decide +kernel

theorem test_assignSlots :
    gives .assignSlots (issued (cell codeAssignSlots 1 0) (on (withJob runningJob) (fun w =>
      w.modSlot 5 (fun s => { s with state := .idle })))) (fun t =>
        ended t .done 1 0 && decide (t.part.mapOf 5 = some 1) && decide (t.part.mapOf 6 = some 1) &&
          decide (t.part.mapOf 7 = none) && decide ((t.part.slot 5).state = .sizing)) = true := by
  decide +kernel

/-- The job status of a command that ends while quiescing does not wait, its slot's mirror entry does
(R166). -/
theorem test_assignSlots_quiescing :
    gives .assignSlots (issued (cell codeAssignSlots 1 0) (withPart (on (withJob runningJob) (fun w =>
      w.modSlot 5 (fun s => { s with state := .idle }))) (fun p => { p with engine := .quiescing })))
      (fun t => decide (t.mem.value 0x284 2 = 1) && decide (t.mem.value 0x828 1 = 0) &&
        !raised t .slotChanged) = true := by decide +kernel

theorem test_assignSlots_busy :
    gives .assignSlots (issued (cell codeAssignSlots 2 0) (seated .ready)) (fun t =>
      ended t .slotBusy 5 0 && decide (t.part.mapOf 6 = none)) = true := by decide +kernel

theorem test_setFilter : gives .setFilter (issued (cell codeSetFilter 0 0x2000) live) (fun t =>
    decide (t.part.command = .readingFilter (cell codeSetFilter 0 0x2000) 0x2000)) = true := by
  decide +kernel

theorem test_filterRecordReadDone :
    gives (.filterRecordReadDone false (wordCells 0x2000 0x0101 ++ wordCells 0x2004 0x56781234))
      (unit (.readingFilter (cell codeSetFilter 0 0x2000) 0x2000) live) (fun t =>
        ended t .done 0 0 && t.part.filter.rejects 0x1234 0x5678 &&
          !t.part.filter.rejects 0x1234 0x5679) = true := by decide +kernel

/-- The tower with slot 5 in a state, of no job. -/
def alone (st : SlotState) (g : Slot → Slot) : State :=
  on tower (fun w => w.modSlot 5 (fun s => g { s with state := st }))

theorem test_ejectSlot :
    gives .ejectSlot (issued (cell codeEjectSlot 0 0) (alone .idle id)) (fun t =>
      ended t .done 0 0 && decide ((t.part.slot 5).state = .failed) &&
        decide ((t.part.slot 5).reason = .operator)) = true := by decide +kernel

theorem test_setIndicator : gives .setIndicator (issued (cell codeSetIndicator 0 2) tower) (fun t =>
    ended t .done 0 0 && decide ((t.part.slot 5).desired = .green) &&
      decide ((t.part.slot 5).pendingLamp = some .green)) = true := by decide +kernel

theorem test_restoreBoard :
    gives .restoreBoard (issued (cell codeRestoreBoard 0 0) (on live (fun w =>
      w.modBoard 0 (fun b => { b with state := .lost })))) (fun t =>
        ended t .done 0 0 && decide ((t.part.board 0).state = .ramping) &&
          decide ((t.part.board 0).switchOn = true) && raised t .railEvent) = true := by decide +kernel

theorem test_portRestore :
    gives .portRestore (issued (cell codePortRestore 0 0) (on tower (fun w =>
      (w.setPort 5 .locked).modSlot 5 (fun s => { s with state := .failed })))) (fun t =>
        ended t .done 0 0 && t.part.portOn 5 && decide ((t.part.slot 5).state = .empty) &&
          t.part.isReady 5 .portPowerOn) = true := by decide +kernel

/-- A port restored in a rebuild is powered at the entry into UP (R123, R138). -/
theorem test_portRestore_waiting :
    gives .portRestore (issued (cell codePortRestore 0 0) (on tower (fun w =>
      (w.setPort 5 .locked).modLane 0 (fun l => { l with
        state := .resetting, tree := some (lastStep 0) })))) (fun t =>
          !t.part.isReady 5 .portPowerOn && gives (.rebuildExchangeEnd 0 .ok 0) t (fun u =>
            u.part.isReady 5 .portPowerOn && !u.part.isReady 4 .portPowerOn)) = true := by decide +kernel

theorem test_intakeStart :
    gives .intakeStart (on (seated .writing) (fun w => w.modJob 1 (fun c => { c with p := 3 }))) (fun t =>
      decide (t.part.intake = some { job := 1, chunk := 2, crc := crcInit, reIntake := false })) =
      true := by decide +kernel

/-- Job 1 with its chunks 1 and 2 VOID, and the intake of chunk 2 in flight. -/
def voidIntake : State :=
  withPart (withJob { runningJob with
    extents := [{ first := 0, count := 128, kind := .fill }, { first := 384, count := 128, kind := .copy }],
    intakeInFlight := true, v := 3, p := 3 })
    (fun p => { p with intake := some { job := 1, chunk := 2, crc := crcInit, reIntake := false } })

theorem test_intakeDone :
    let w := (Work.start voidIntake).endIntake []
      { job := 1, chunk := 2, crc := crcInit, reIntake := false }
    (w.p.job 1).i = 3 ∧ (w.p.job 1).d = 3 ∧ w.out.writes = [(0x8010, [0, 0, 0, 0, 3, 0, 0, 0])] := by
  decide +kernel

theorem test_jobPaused : gives (.jobPaused 1) (withJob { runningJob with state := .pausing }) (fun t =>
    decide ((t.part.job 1).state = .paused) && raised t .jobChanged) = true := by decide +kernel

theorem test_jobEnded : gives (.jobEnded 1) (withJob { runningJob with state := .closing }) (fun t =>
    decide ((t.part.job 1).state = .ended) && raised t .jobChanged) = true := by decide +kernel

theorem test_passEnd : gives (.passEnd 1) (seated .deferred) (fun t =>
    decide ((t.part.job 1).state = .standby) && decide ((t.part.job 1).passActive = false) &&
      raised t .rewindNeeded) = true := by decide +kernel

theorem test_lagHoldTimerExpiry :
    let w := (Work.start (seatedWith .writing (fun s => { s with writeOffset := 64, written := 64 }))
      ).takeEnd 5 LagPolicy.defer.mark
    (w.p.slot 5).state = .deferred ∧ (w.p.slot 5).writeOffset = 0 ∧ (w.p.slot 5).written = 0 := by
  decide +kernel

theorem test_pendingEndApply :
    gives (.pendingEndApply 5) (alone .enumerating (fun s => { s with pendingEnd := .operator }))
      (fun t => decide ((t.part.slot 5).state = .failed) &&
        decide ((t.part.slot 5).reason = .operator)) = true := by decide +kernel

theorem test_attachNotice : gives (.attachNotice 5) tower (fun t =>
    decide ((t.part.slot 5).state = .settling) && raised t .slotChanged) = true := by decide +kernel

theorem test_attachNotice_waits :
    gives (.attachNotice 5) (on tower (fun w => w.modSlot 5 (fun s => { s with outcomePending := true })))
      (fun t => decide ((t.part.slot 5).state = .empty) && (t.part.slot 5).attachWaiting) = true := by
  decide +kernel

theorem test_detachNotice : gives (.detachNotice 5) (alone .enumerating id) (fun t =>
    decide ((t.part.slot 5).state = .empty) &&
      decide (t.part.outcomes.queue.map (·.outcome.reason) = [.removed]) &&
      decide (t.part.outcomes.queue.map (·.outcome.job) = [none])) = true := by decide +kernel

theorem test_overcurrentNotice : gives (.overcurrentNotice 5) (alone .enumerating id) (fun t =>
    t.part.portLocked 5 && t.part.isReady 5 .portPowerOff &&
      decide ((t.part.slot 5).reason = .overcurrent) && raised t .railEvent) = true := by decide +kernel

theorem test_hubLoss : gives (.hubLoss 0 2) (alone .settling id) (fun t =>
    decide ((t.part.lane 0).state = .resetting) &&
      decide ((t.part.lane 0).fault = { kind := .hubLost, hubPort := 2 }) &&
      decide ((t.part.slot 5).reason = .laneReset) && raised t .laneEvent) = true := by decide +kernel

theorem test_attachRelease :
    gives (.attachRelease 5) (on tower (fun w => w.modSlot 5 (fun s => { s with attachWaiting := true })))
      (fun t => decide ((t.part.slot 5).state = .settling) && !(t.part.slot 5).attachWaiting) = true := by
  decide +kernel

theorem test_settleTimerExpiry :
    gives (.settleTimerExpiry 5) (on tower (fun w => w.modSlot 5 (fun s =>
      { s with state := .settling, settle := 200 }))) (fun t =>
        decide ((t.part.slot 5).state = .enumerating) && decide ((t.part.slot 5).attempts = 1) &&
          t.part.isReady 5 .portReset) = true := by decide +kernel

theorem test_settleTimerExpiry_early :
    gives (.settleTimerExpiry 5) (on tower (fun w => w.modSlot 5 (fun s =>
      { s with state := .settling, settle := 199 }))) (fun t =>
        decide ((t.part.slot 5).state = .settling)) = true := by decide +kernel

theorem test_backoffTimerExpiry :
    gives (.backoffTimerExpiry 5) (seatedWith .sizing (fun s => { s with backoff := some 100 }))
      (fun t => decide ((t.part.slot 5).backoff = none) &&
        decide ((t.part.dataReady 5).isSome = true)) = true := by decide +kernel

theorem test_blinkPhase :
    let s := { Slot.reset with state := .deferred }
    (withPart live (fun p => { p with time := 499 })).part.desiredLamp s = .green ∧
      (withPart live (fun p => { p with time := 500 })).part.desiredLamp s = .amber ∧
      (withPart live (fun p => { p with time := 1000 })).part.desiredLamp s = .green := by
  decide +kernel

theorem test_laneGrant_control : gives (.laneGrant 0) (on tower (fun w => w.request 5 .portReset)) (fun t =>
    decide ((t.part.lane 0).ready = []) && decide (t.part.placeOf 5 = some
      { port := 5, address := 3, transaction := .control .portReset, timer := 0, timeout := 500,
        disowned := false })) = true := by decide +kernel

theorem test_requestsOfOneCommand_byPort :
    let old : State := on tower (fun w => w.request 9 .portReset)
    let t : State := on old (fun w => ((w.request 5 .portReset).request 3 .portReset).request 4 .lamp)
    (t.part.lane 0).ready.map (·.port.val) = [9, 3, 4, 5] := by decide +kernel

theorem test_laneGrant_data : gives (.laneGrant 0) (seated .writing) (fun t =>
    decide (t.part.placeOf 5 = some
      { port := 5, address := 11,
        transaction := .data { kind := .imageWrite, first := 0, count := 128 } 0, timer := 0,
        timeout := 2000, disowned := false }) &&
      decide ((t.part.lane 0).pointer = 6) && decide ((t.part.lane 0).tag = 1)) = true := by
  decide +kernel

theorem test_transactionCompletion :
    gives (.transactionCompletion 5 (.data (passedAnswer 3 32768)) false [])
      (inFlight (.data write64 3) 0 (seated .writing)) (fun t =>
        decide ((t.part.slot 5).written = 64) && decide ((t.part.slot 5).writeOffset = 64) &&
          decide (t.part.placeOf 5 = none)) = true := by decide +kernel

/-- The manual's example 11.3: the last write of a marked laggard, then its deferral. -/
theorem test_transactionCompletion_deferral :
    gives (.transactionCompletion 5 (.data (passedAnswer 3 65536)) false [])
      (inFlight (.data { kind := .imageWrite, first := 5120, count := 128 } 3) 3040
        (on (withJob { runningJob with
          extents := [{ first := 0, count := 20480, kind := .copy }], span := 20480,
          chunkSize := 2048, chunks := 10, blocks := 20480, v := 6, p := 6, i := 6, f := 2, d := 6,
          lagSpent := true }) (fun w => w.modSlot 5 (fun s =>
            { s with state := .writing, member := some 1, writeChunk := 2, writeOffset := 1024,
                     written := 5120, pendingEnd := .defer })))) (fun t =>
        decide ((t.part.slot 5).state = .deferred) && decide ((t.part.slot 5).writeChunk = 2) &&
          decide ((t.part.slot 5).writeOffset = 0) && decide ((t.part.slot 5).written = 4096) &&
          decide ((t.part.slot 5).progress = 200)) = true := by decide +kernel

theorem test_transactionTimerExpiry :
    gives (.transactionTimerExpiry 5) (inFlight (.data write64 3) 2000 (seated .writing)) (fun t =>
      decide ((t.part.slot 5).retries = 1) && decide ((t.part.slot 5).stickErrors = 1) &&
        decide ((t.part.lane 0).health = 1) && t.part.isReady 5 .resetRecovery) = true := by
  decide +kernel

theorem test_lateAnswer :
    lateEnds (some { port := 5, address := 11, transaction := .data write64 3, timer := 9,
                     timeout := 2000, disowned := false }) true 2 true = some write64 ∧
    lateEnds (some { port := 5, address := 11, transaction := .data write64 3, timer := 9,
                     timeout := 2000, disowned := false }) true 3 true = none := by decide

theorem test_copyDataReadError :
    gives (.copyDataReadError 5) (inFlight (.data write64 3) 10 (on (seated .writing) (fun w =>
      w.modJob 1 (fun c => { c with extents := [{ first := 0, count := 512, kind := .copy }] }))))
      (fun t => decide (t.part.faultCode = .areaRead) && decide (t.part.faultDetail = 2) &&
        decide ((t.part.slot 5).stickErrors = 1)) = true := by decide +kernel

theorem test_retryWaitExpiry :
    gives (.retryWaitExpiry 0) (on live (fun w => w.modLane 0 (fun l => { l with retryWait := some 5000 })))
      (fun t => decide ((t.part.lane 0).retryWait = none)) = true := by decide +kernel

theorem test_bringUpStart :
    gives (.bringUpStart 0) (on tower (fun w => w.modLane 0 (fun l => { l with state := .down }))) (fun t =>
      decide ((t.part.lane 0).state = .bringingUp) && raised t .laneEvent) = true := by decide +kernel

/-- The tower with lane 0 in the last exchange of a bring-up or rebuild. -/
def lastExchange (st : LaneState) (ports : PortPower) : State :=
  on tower (fun w => (w.modLane 0 (fun l => { l with
    state := st, tree := some (lastStep 0) })).modBoard 0
    (fun b => { b with ports := Vector.replicate 16 ports }))

theorem test_bringUpExchangeEnd : gives (.bringUpExchangeEnd 0 .ok 0) (lastExchange .bringingUp .off)
    (fun t => decide ((t.part.lane 0).state = .up) && t.part.portOn 3 && !t.part.portOn 4 &&
      t.part.isReady 3 .portPowerOn && raised t .laneEvent) = true := by decide +kernel

theorem test_rebuildExchangeEnd : gives (.rebuildExchangeEnd 0 .failed 0) (lastExchange .resetting .on)
    (fun t => decide ((t.part.lane 0).state = .down) && !t.part.portOn 3 &&
      decide ((t.part.lane 0).fault = { kind := .lowerHub, hubPort := 4 }) &&
      decide ((t.part.lane 0).retryWait = some 0)) = true := by decide +kernel

theorem test_rebuildExchangeEnd_scan :
    gives (.rebuildExchangeEnd 0 .ok 0x20) (lastExchange .resetting .on) (fun t =>
      decide ((t.part.lane 0).state = .up) && decide ((t.part.slot 5).state = .settling) &&
        decide ((t.part.slot 4).state = .empty)) = true := by decide +kernel

/-- Step 5 sets a port to its record's power through its lower hub (R116, R121, R124). -/
theorem test_treeRequests :
    let b := tower.part.board 0
    TreeStep.request (.portPower 5) b = .setPower 3 2 true ∧
      TreeStep.request (.portPower 5) { b with ports := b.ports.set 5 .locked } = .setPower 3 2 false ∧
      TreeStep.request (.upperHub .describe) b = .describe 1 ∧
      TreeStep.request (.lowerHub 3 .address) b = .giveAddress 5 ∧
      TreeStep.request (.noticeChannel 0) b = .openNotices 1 ∧
      TreeStep.request (.noticeChannel 4) b = .openNotices 5 := by decide +kernel

theorem test_conversionStart :
    gives .conversionStart (withPart tower (fun p => { p with time := 16 })) (fun t =>
      decide (t.part.converter = { busy := some (0, 0), last := 0 }) &&
        decide ((t.part.board 0).due = some 1040)) = true := by decide +kernel

/-- The tower with a conversion of board 0 at its end, and these run counts. -/
def converting (st : BoardState) (sagRun deadRun : Nat) : State :=
  on (withPart tower (fun p => { p with converter := { busy := some (0, 1), last := 0 } })) (fun w =>
    w.modBoard 0 (fun b => { b with state := st, sagRun := sagRun, deadRun := deadRun }))

theorem test_conversionDone_sag : gives (.conversionDone 5) (converting .on 3 0) (fun t =>
    (t.part.board 0).sagging && decide ((t.part.board 0).sagRun = 4) && raised t .railEvent) = true ∧
    gives (.conversionDone 5) (converting .on 2 0) (fun t => !(t.part.board 0).sagging) = true := by
  decide +kernel

theorem test_conversionDone_lost : gives (.conversionDone 0) (converting .on 0 3) (fun t =>
    decide ((t.part.board 0).state = .lost) && decide ((t.part.lane 0).state = .down) &&
      !(t.part.board 0).switchOn && raised t .railEvent) = true := by decide +kernel

/-- A loss from RAMPING finds the lane DOWN: its indicator requests stay (R79, R147). -/
theorem test_conversionDone_lost_lamps :
    gives (.conversionDone 0) (on (converting .ramping 0 3) (fun w =>
      ((w.modLane 0 (fun x => { x with state := .down })).pendLamp 5 .amber).request 6 .portPowerOn))
      (fun t => decide ((t.part.board 0).state = .lost) && decide ((t.part.slot 5).pendingLamp = some .amber) &&
        decide ((t.part.lane 0).ready = [{ port := 5, kind := .lamp }])) = true := by decide +kernel

theorem test_powerGroupIntervalExpiry :
    gives (.powerGroupIntervalExpiry 0) (on tower (fun w => w.modBoard 0 (fun b =>
      { b with staged := .running 100 100, ports := Vector.replicate 16 .off }))) (fun t =>
        t.part.portOn 3 && !t.part.portOn 4 &&
          decide ((t.part.board 0).staged = .running 0 100)) = true := by decide +kernel

/-- A running group keeps the interval it was taken with (R174). -/
theorem test_powerGroup_interval :
    let s := fun n => withPart (on tower (fun w => w.modBoard 0 (fun b =>
      { b with staged := .running n 100, ports := Vector.replicate 16 .off }))) (fun p =>
        { p with settings := { p.settings with groupInterval := 10 } })
    (s 99).part.groupDue 0 = false ∧ gives (.powerGroupIntervalExpiry 0) (s 100) (fun t =>
      decide ((t.part.board 0).staged = .running 0 10)) = true := by decide +kernel

/-- A record of slot 5 in the queue, with room in the list at 0x100000. -/
def queued (writing : Bool) : State :=
  on tower (fun w =>
    let r := w.p.capture 5 .failed
    ({ w with p := { w.p with outcomes :=
        { w.p.outcomes with queue := [{ outcome := r, unjudged := false }], offset := 0x100000,
                            capacity := 16, written := 17, held := 16,
                            writing := if writing then some r else none } } } : Work).modSlot 5
      (fun s => { s with outcomePending := true, attachWaiting := true }))

theorem test_outcomeRecordWriteStart : gives .outcomeRecordWriteStart (queued false) (fun t =>
    decide (t.part.outcomes.writing.isSome = true)) = true := by decide +kernel

theorem test_outcomeRecordWriteDone : gives .outcomeRecordWriteDone (queued true) (fun t =>
    decide (t.part.outcomes.written = 18) && decide (t.part.outcomes.queue = []) &&
      decide (t.mem.word 0x100080 = 17) && decide (t.mem.value 0x100084 1 = 5) &&
      decide (t.mem.word 0x110 = 18) && decide ((t.part.slot 5).state = .settling) &&
      raised t .outcomeAdded) = true := by decide +kernel

/-! ### Values the manual works out -/

/-- The check value of the CRC (R36). -/
theorem test_crc : crc32 [0x31, 0x32, 0x33, 0x34, 0x35, 0x36, 0x37, 0x38, 0x39] = 0xCBF43926 := by
  decide +kernel

/-- The points of a 32 GiB claim (example 11.4): sixteen, the tenth at 41,943,039. -/
theorem test_probePoints : (probePoints .full 67108863).length = 16 ∧
    (probePoints .full 67108863).getD 9 0 = 41943039 ∧
    (probePoints .full 67108863).getD 15 0 = 67108863 ∧
    honestEstimate (probePoints .full 67108863) 10 = 41943040 := by decide +kernel

/-- An empty queue: one millisecond passes. -/
theorem test_idleStep : (match step live with
    | .next t => decide (t.part.time = 1) && decide (t.part.scanTimer = 1)
    | _ => false) = true := by decide +kernel

/-! ### Cases that meet the hypotheses of the obligations, clause by clause -/

theorem witness_IdleStepIsOneMillisecond : live.pending = [] ∧
    ((alone .settling (fun s => { s with settle := 1023 })).part.reports = true ∧
      ((alone .settling (fun s => { s with settle := 1023 })).part.slot 5).state = .settling ∧
      ((alone .settling (fun s => { s with settle := 1023 })).part.slot 5).settle < 1024) ∧
    State.reset.part.reports = false ∧ (live.part.job 1).lagRunning = false ∧
    ((withJob { runningJob with lagRunning := true, lagTimer := 99 }).part.job 1).lagRunning = true ∧
    ((on tower (fun w => w.modBoard 0 (fun b => { b with staged := .running 99 100 }))).part.board 0
      ).staged = .running 99 100 ∧ (tower.part.board 0).sagging = false ∧
    (tower.part.board 0).staged = .idle := by
  decide +kernel

theorem witness_EveryCommandIsAnswered :
    hostWritesFit live.part.straps (Instr.attention 0 [(1073741823, 1)]).host = true ∧
      hostWritesFit live.part.straps (Instr.attention 0 [(1073741824, 1)]).host = false ∧
      live.part.occurs (.jobPaused 1) = false ∧ live.part.occurs (.attention 0 []) = true ∧
      exec (.jobPaused 1) live = .next live ∧ exec (.registerWrite 0 0) live = .next live :=
  ⟨by decide +kernel, by decide +kernel, by decide +kernel, rfl, rfl, rfl⟩

theorem witness_MemoryStaysCanonical : live.wf ∧ ∃ t, step live = .next t :=
  ⟨(by decide : live.mem.wf), _, rfl⟩

theorem witness_TowerStaysConsistent : ∃ t, step State.reset = .next t := ⟨_, rfl⟩

theorem witness_AreasStayBeyondTheExchangeBlock : AreasInv State.reset ∧ ∃ t, step State.reset = .next t :=
  ⟨⟨by decide +kernel, (by intro x h; cases h), by decide +kernel⟩, _, rfl⟩

/-- The boards and lanes of the reset state are consistent. -/
theorem witness_TowerInv : TowerInv State.reset := by
  refine ⟨?_, ?_⟩
  · unfold BoardsInv BoardInv; decide +kernel
  · unfold LanesInv; decide +kernel

theorem witness_CausesStayUntilCleared : isReset (.registerWrite 0 0) = false ∧
    (∀ v, Instr.registerWrite 0 0 ≠ .causeClear v) ∧
    ({ live with port := { Port.reset with cause := 1 } } : State).port.has .commandDone ∧
    ∃ t, exec (.registerWrite 0 0) { live with port := { Port.reset with cause := 1 } } = .next t :=
  ⟨rfl, by intro v; simp, rfl, _, rfl⟩

theorem witness_StrapsAndDefinitionsAreStable : (∀ x, Instr.enable ≠ .powerOnReset x) ∧
    (∀ x, Instr.enable ≠ .pinReset x) ∧ isReset .enable = false ∧
    (∀ e h, Instr.enable ≠ .extentEntryRead e h) ∧ ∃ t, exec .enable State.reset = .next t := by
  refine ⟨by intro x; simp, by intro x; simp, rfl, by intro e h; simp, ?_⟩
  exact ⟨_, rfl⟩

theorem witness_EventsKeepTheRest : ∃ t, exec (.attachNotice 5) tower = .next t := by
  simp only [exec, execAttachNotice, guarded]
  split <;> exact ⟨_, rfl⟩

theorem witness_OnlyPartOwnedFieldsAreWritten : isReset (.attachNotice 5) = false ∧
    (∀ r h, Instr.attachNotice 5 ≠ .intakeDone r h) ∧ Instr.attachNotice 5 ≠ .outcomeRecordWriteDone ∧
    ∃ t, exec (.attachNotice 5) tower = .next t :=
  ⟨rfl, by intro r h; simp, by simp, witness_EventsKeepTheRest⟩

theorem witness_EnableStartsTheEngine : State.reset.wf ∧ State.reset.part.engine ≠ .enabled ∧
    (State.reset.part.board 15).state = .off ∧ (tower.part.board 0).state ≠ .off ∧
    live.part.engine = .enabled ∧ ∃ t, exec .enable State.reset = .next t := by
  refine ⟨(by decide : State.reset.mem.wf), by decide +kernel, by decide +kernel, by decide +kernel,
    by decide +kernel, ?_⟩
  exact ⟨_, rfl⟩

theorem witness_QuiesceStopsTheEngine : live.part.engine = .enabled ∧
    live.part.nothingInFlight = true ∧ (scanning .consumed live).part.nothingInFlight = false ∧
    State.reset.part.engine ≠ .enabled ∧
    (withPart live (fun p => { p with engine := .quiescing })).part.engine = .quiescing ∧
    (withPart live (fun p => { p with engine := .quiescing })).part.nothingInFlight = true := by
  decide +kernel

theorem witness_ScanRequestsAreMade : hostWritesFit live.part.straps [(0, 1)] = true ∧
    live.part.reports = true ∧ State.reset.part.reports = false ∧
    0 < live.part.settings.scanInterval ∧
    live.part.settings.scanInterval ≤ (withPart live (fun p => { p with scanTimer := 10 })).part.scanTimer ∧
    live.part.scan = .idle ∧ (scanning .consumed live).part.scan = .inFlight .consumed false := by
  decide +kernel

theorem witness_RegistersAreLaidOut : (2 : Word).getLsbD 1 = true ∧
    (1 : Word).getLsbD 1 = false ∧ (1 : Word).getLsbD 0 = true ∧ (0 : Word).getLsbD 0 = false ∧
    registerReserved 0 = true ∧ registerReserved 0x14 = true ∧ registerReserved 0x10 = false := by decide

theorem witness_CommandsAreTaken : hostWritesFit live.part.straps [(0, 1)] = true ∧
    (scanning .commandCount live).part.scan = .inFlight .commandCount false ∧
    (unit .readingCell live).part.command = .readingCell ∧
    (readCell (Memory.apply [] [(0, 1)])).count ≠ (unit .readingCell live).part.doneCount ∧
    (readCell (Memory.apply [] [])).count = (unit .readingCell live).part.doneCount := by decide +kernel

/-- A publish field of job 1: tag, value. -/
def published (tag value : Nat) : List Host.Cell := wordCells 0x28 tag ++ wordCells 0x2C value

/-- A scan at the publish field of job 1 of a running job. -/
def publishing : State := scanning (.publish 1) (seated .writing)

theorem witness_PublishFieldIsJudged : hostWritesFit publishing.part.straps (published 1 3) = true ∧
    publishing.part.scan = .inFlight (.publish 1) false ∧ (publishing.part.job 1).passActive = true ∧
    readPublish (publishing.mem.apply (published 1 3)) 1 = (1, 3) ∧
    (publishing.part.job 1).lastSeen ≠ some (1, 3) ∧ (1 : Half).toNat = (publishing.part.job 1).passNo ∧
    (publishing.part.job 1).v < (3 : Word).toNat ∧
    (readPublish (publishing.mem.apply (published 1 1)) 1).2.toNat < (publishing.part.job 1).v ∧
    min ((publishing.part.job 1).f + (publishing.part.job 1).record.depth)
        (publishing.part.job 1).chunks <
      (readPublish (publishing.mem.apply (published 1 5)) 1).2.toNat ∧
    (readPublish (publishing.mem.apply (published 2 5)) 1).1.toNat ≠ (publishing.part.job 1).passNo := by
  decide +kernel

theorem witness_ConsumedCountIsJudged : (scanning .consumed twoWritten).wf ∧
    (scanning .consumed twoWritten).part.scan = .inFlight .consumed false ∧
    (Memory.apply [] (wordCells 0x40 2)).word 0x40 = 2 ∧
    ((2 : Word) - twoWritten.part.outcomes.held).toNat ≤ twoWritten.part.outcomes.unconsumed ∧
    twoWritten.part.outcomes.unconsumed < ((3 : Word) - twoWritten.part.outcomes.held).toNat ∧
    twoWritten.part.refused ≠ some 3 ∧
    (withPart twoWritten (fun p => { p with refused := some 3 })).part.refused = some 3 :=
  ⟨(by decide : (scanning .consumed twoWritten).mem.wf), by decide +kernel⟩

theorem witness_ScanRequestsAreMade_reads :
    (scanning .commandCount live).part.scan = .inFlight .commandCount false ∧
    (scanning (.publish 3) live).part.scan = .inFlight (.publish 3) false ∧
    (withPart live (fun p => { p with engine := .quiescing, scan := .ending (.publish 3) false })
      ).part.scan = .ending (.publish 3) false := by decide +kernel

/-- A case of every premise: an attach changes a mirror entry, an overcurrent a board entry, a loss of a
hub a lane entry, an abort a job, a refused count the fault word, a refusal the results, a record write
the written count. -/
theorem witness_ReportedFieldsAreCurrent : tower.wf ∧ isReset (.attachNotice 5) = false ∧
    gives (.attachNotice 5) tower (fun t => t.part.reports &&
      decide (mirrorEntry (t.part.slot 5) ≠ mirrorEntry (tower.part.slot 5)) &&
      decide (t.mem.read 0x828 ≠ tower.mem.read 0x828)) = true ∧
    gives (.overcurrentNotice 5) tower (fun t =>
      decide (lockedSet (t.part.board 0) ≠ lockedSet (tower.part.board 0))) = true ∧
    gives (.hubLoss 0 2) tower (fun t =>
      decide ((t.part.lane 0).state ≠ (tower.part.lane 0).state)) = true ∧
    gives .abortJob (issued (cell codeAbortJob 1 0) (seated .writing)) (fun t =>
      decide ((t.part.job 1).state ≠ ((seated .writing).part.job 1).state)) = true ∧
    gives .unknownCommand (issued (cell 0x99 0 0) live) (fun t =>
      decide (t.part.doneCount ≠ live.part.doneCount)) = true ∧
    gives .outcomeRecordWriteDone (queued true) (fun t =>
      decide (t.part.outcomes.written ≠ (queued true).part.outcomes.written)) = true ∧
    gives (.copyDataReadError 5) (inFlight (.data write64 3) 10 (on (seated .writing) (fun w =>
      w.modJob 1 (fun c => { c with extents := [{ first := 0, count := 512, kind := .copy }] }))))
      (fun t => decide (t.part.faultCode ≠ .none)) = true ∧
    gives (.pendingEndApply 5) (seatedWith .writing (fun s => { s with pendingEnd := .operator }))
      (fun t => decide (0 < (t.part.job 1).f)) = true :=
  ⟨(by decide : tower.mem.wf), rfl, by decide +kernel⟩

/-- A definition admits an idle slot; a release lets a member go. -/
theorem witness_ReportedFieldsAreCurrent_members :
    gives (.extentEntryRead false (wordCells 0x3004 512 ++ wordCells 0x3008 2))
      (on lastExtent (fun w => (w.setMap [5] (some 1)).modSlot 5 (fun s => { s with state := .idle })))
      (fun t => decide ((t.part.slot 5).member = some 1) && t.part.reports &&
        decide (t.mem.value 0x284 2 = 1)) = true := by decide +kernel

theorem witness_ReportedFieldsAreCurrent_released :
    gives .releaseJob (issued (cell codeReleaseJob 1 0) (on (seated .failed) (fun w =>
        w.modJob 1 (fun c => { c with state := .ended })))) (fun t =>
      decide ((t.part.slot 5).member = none)) = true ∧
    ((seated .failed).part.slot 5).attachWaiting = false := by decide +kernel

theorem witness_UnknownCommandIsRefused : (issued (cell 0x99 0 0) live).wf ∧
    (issued (cell 0x99 0 0) live).part.command = .executing (cell 0x99 0 0) ∧
    (cell 0x99 0 0).code ∉ commandCodes :=
  ⟨(by decide : (issued (cell 0x99 0 0) live).mem.wf), by decide +kernel⟩

/-- The settings record with a list of 16 records at 0x1000. -/
def listCells : List Host.Cell := wordCells 0xA4 16 ++ wordCells 0xA8 0x1000

theorem witness_SettingsAreApplied :
    (issued (cell codeApplySettings 0 0) live).executes codeApplySettings (cell codeApplySettings 0 0) ∧
    (unit (.readingSettings (cell codeApplySettings 0 0)) live).part.command =
      .readingSettings (cell codeApplySettings 0 0) ∧
    (readSettings []).capacity = live.part.outcomes.capacity ∧
    (readSettings []).offset = live.part.outcomes.offset ∧
    (readSettings []).settings.scanInterval ≠ live.part.settings.scanInterval ∧
    (readSettings (Memory.apply [] listCells)).capacity ≠ live.part.outcomes.capacity :=
  ⟨⟨rfl, rfl⟩, rfl, by decide +kernel⟩

/-- Values below, in and above their ranges, and the mask of those not kept; K below and above its range. -/
theorem witness_SettingsAreApplied_clamped :
    let n := readSettings (Memory.apply [] (wordCells 0x80 1001 ++ wordCells 0x84 99 ++
      wordCells 0x88 7 ++ wordCells 0x8C 1 ++ wordCells 0x90 1024 ++ wordCells 0x94 16 ++
      wordCells 0x98 10 ++ wordCells 0x9C 14 ++ wordCells 0xA0 2 ++ wordCells 0xA4 4097))
    n.settings = { scanInterval := 1000, dataTimeout := 100, retryLimit := 7, errorBudget := 1,
                   settleTime := 1024, groupSize := 16, groupInterval := 10, sagLevel := 13,
                   indicators := true } ∧ n.capacity = 4096 ∧ n.mask = 0x383 ∧
    (readSettings (Memory.apply [] (wordCells 0xA4 15))).capacity = 16 := by decide +kernel

/-- A settle time taken in the middle of a quiesce that a SETTLING slot has reached already. -/
def quiescingSettle : State :=
  { unit (.readingSettings (cell codeApplySettings 0 0)) (withPart
      (alone .settling (fun s => { s with settle := 16 })) (fun p => { p with engine := .quiescing })) with
    mem := Memory.apply [] (wordCells 0xA0 1) }

theorem witness_SettingsAreApplied_settled :
    (quiescingSettle.part.slot 5).state = .settling ∧ (quiescingSettle.part.slot 5).settle = 16 ∧
    quiescingSettle.part.reports = false ∧ (quiescingSettle.part.slot 4).state ≠ .settling ∧
    gives (.settingsRecordReadDone false []) quiescingSettle (fun t =>
      decide (t.part.settings.settleTime = 16) && decide ((t.part.slot 5).state = .enumerating) &&
        t.part.isReady 5 .portReset) = true := by decide +kernel

theorem witness_ListChangeIsJudged :
    live.part.outcomes.writing = none ∧ twoWritten.part.outcomes.unconsumed ≠ 0 ∧
    live.part.outcomes.unconsumed = 0 ∧
    areaFits live.part.straps 0x800 (128 * 16) = false ∧
    areaFits (seated .writing).part.straps 0x8000 (128 * 16) = true ∧
    firstOverlap 0x8000 (128 * 16) ((6, 0, 4096) :: (seated .writing).part.liveAreas none) = some 1 ∧
    areaFits live.part.straps 0x1000 (128 * 16) = true ∧
    firstOverlap 0x1000 (128 * 16) ((6, 0, 4096) :: live.part.liveAreas none) = none := by
  decide +kernel

theorem witness_JobCommandsNeedAJob : jobOfByte (cell codeDefineJob 4 0).job = none ∧
    (issued (cell codeDefineJob 4 0) live).executes codeDefineJob (cell codeDefineJob 4 0) ∧
    (issued (cell codeSetPriority 4 0) live).executes codeSetPriority (cell codeSetPriority 4 0) ∧
    (issued (cell codePauseJob 4 0) live).executes codePauseJob (cell codePauseJob 4 0) ∧
    (issued (cell codeResumeJob 4 0) live).executes codeResumeJob (cell codeResumeJob 4 0) ∧
    (issued (cell codeCloseJob 4 0) live).executes codeCloseJob (cell codeCloseJob 4 0) ∧
    (issued (cell codeAbortJob 4 0) live).executes codeAbortJob (cell codeAbortJob 4 0) ∧
    (issued (cell codeReleaseJob 4 0) live).executes codeReleaseJob (cell codeReleaseJob 4 0) ∧
    (issued (cell codeStartPass 4 0) live).executes codeStartPass (cell codeStartPass 4 0) :=
  ⟨by decide, ⟨rfl, rfl⟩, ⟨rfl, rfl⟩, ⟨rfl, rfl⟩, ⟨rfl, rfl⟩, ⟨rfl, rfl⟩, ⟨rfl, rfl⟩, ⟨rfl, rfl⟩,
    ⟨rfl, rfl⟩⟩

theorem witness_JobRecordIsReadAndChecked :
    (issued (cell codeDefineJob 3 0x1000) live).executes codeDefineJob (cell codeDefineJob 3 0x1000) ∧
    jobOfByte (cell codeDefineJob 3 0x1000).job = some 3 ∧
    ((withJob runningJob).part.job 1).state ≠ .vacant ∧ (live.part.job 3).state = .vacant ∧
    areaFits live.part.straps 0xFFF 64 = false ∧ areaFits live.part.straps 0x1000 64 = true :=
  ⟨⟨rfl, rfl⟩, by decide +kernel⟩

/-- The bounds of the record checks are taken: k 7, W 4, one extent, priority 2. -/
theorem witness_JobRecordIsReadAndChecked_record :
    let r := readRecord (Memory.apply [] recordCells) 0x2000
    hostWritesFit live.part.straps recordCells = true ∧ 7 ≤ r.k ∧ r.k ≤ 11 ∧ 2 ≤ r.depth ∧
      r.depth ≤ 64 ∧ 1 ≤ r.extentCount ∧ r.extentCount ≤ 1024 ∧ lagPolicyOf r.policy = some .defer ∧
      1 ≤ r.priority ∧ r.priority ≤ 3 ∧ verifyModeOf r.verify = some .none ∧
      probeModeOf r.probe = some .off ∧
      areaFits live.part.straps r.extentOffset (16 * r.extentCount) = true ∧
      areaFits live.part.straps r.stagingOffset (stagingBytes (2 ^ r.k) r.depth) = true ∧
      (readRecord [] 0x2000).k < 7 := by decide +kernel

/-- Each check of R10 in turn is the first that fails: the record of `recordCells` with one field spoilt;
the area checks come last. -/
theorem test_jobRecordReadDone_refusals :
    [([(0x2016, 12)], 1, 0), ([(0x2017, 65)], 2, 0), ([(0x2004, 0)], 3, 0)].all
      (fun (x : List Host.Cell × Word × Word) => gives (.jobRecordReadDone false (recordCells ++ x.1))
        (unit (.readingJobRecord (cell codeDefineJob 1 0x2000) 1 0x2000) live)
        (fun t => ended t .badRecord x.2.1 x.2.2)) = true ∧
    gives (.jobRecordReadDone false (recordCells ++ [(0x2000, 1)]))
      (unit (.readingJobRecord (cell codeDefineJob 1 0x2000) 1 0x2000) live)
      (fun t => ended t .badRecord (Detail.areaRange).code 1) = true ∧
    gives (.jobRecordReadDone false (recordCells ++ [(0x2008, 1)]))
      (unit (.readingJobRecord (cell codeDefineJob 1 0x2000) 1 0x2000) live)
      (fun t => ended t .badRecord (Detail.areaRange).code 2) = true := by decide +kernel

theorem witness_ExtentsAreRead : lastExtent.part.command =
      .readingExtents (cell codeDefineJob 1 0x2000) 1 runningJob.record 0x3000 1 [] ∧
    extentKindOf 2 = some .fill ∧ ([] : List Extent).length + 1 < 2 ∧
    (readExtent (Memory.apply [] (wordCells 0x3004 512 ++ wordCells 0x3008 2)) 0x3000) = (0, 512, 2) ∧
    checkExtent none (0, 0, 2) = .error .extentEmpty :=
  ⟨rfl, rfl, by decide, by decide +kernel, rfl⟩

/-- Entries that meet all but one of the four conditions: a kind of 0 or 3, no block, an end beyond
2^32 - 1, a first block below the end before it. -/
theorem test_checkExtent : checkExtent none (0, 0, 0) = .error .extentKind ∧
    checkExtent none (0, 1, 3) = .error .extentKind ∧
    checkExtent (some 9) (0, 0, 1) = .error .extentEmpty ∧
    checkExtent (some 9) (4294967295, 1, 1) = .error .imageSpan ∧
    checkExtent (some 9) (8, 1, 2) = .error .extentOrder ∧
    checkExtent (some 9) (9, 4294967286, 2) =
      .ok { first := 9, count := 4294967286, kind := .fill } := ⟨rfl, rfl, rfl, rfl, rfl, rfl⟩

theorem witness_JobIsDefined :
    checkExtent none (0, 512, 2) = .ok { first := 0, count := 512, kind := .fill } ∧
    chunkCount (imageSpan [{ first := 0, count := 512, kind := .fill }]) (2 ^ 7) ≤ 1048576 ∧
    areaFits lastExtent.part.straps runningJob.record.digestOffset (digestBytes 4) = true ∧
    firstOverlap 0x10000 (stagingBytes (2 ^ 7) 4)
      (lastExtent.part.otherAreas 1 (0x8000, digestBytes 4)) = none ∧
    firstOverlap 0x8000 (digestBytes 4)
      (lastExtent.part.otherAreas 1 (0x10000, stagingBytes (2 ^ 7) 4)) = none ∧
    (on lastExtent (fun w => (w.setMap [5] (some 1)).modSlot 5 (fun s => { s with state := .idle }))
      ).part.mapOf 5 = some 1 := ⟨rfl, by decide +kernel⟩

/-- The refusals of the last entry: N above its limit, a digest list out of place, and the two areas in
conflict with an outcome list. -/
theorem witness_JobIsDefined_refusals :
    let listed := fun a => withPart lastExtent (fun p =>
      { p with outcomes := { p.outcomes with capacity := 16, offset := a } })
    1048576 < chunkCount (imageSpan [{ first := 0, count := 134217729, kind := .fill }]) (2 ^ 7) ∧
    areaFits lastExtent.part.straps 0x8001 (digestBytes 4) = false ∧
    firstOverlap 0x10000 (stagingBytes (2 ^ 7) 4)
      ((listed 0x10000).part.otherAreas 1 (0x8000, digestBytes 4)) = some 5 ∧
    firstOverlap 0x8000 (digestBytes 4)
      ((listed 0x8000).part.otherAreas 1 (0x10000, stagingBytes (2 ^ 7) 4)) = some 5 ∧
    gives (.extentEntryRead false (wordCells 0x3004 512 ++ wordCells 0x3008 2)) (listed 0x8000)
      (fun t => ended t .areaConflict 3 5) = true := by decide +kernel

theorem witness_PriorityIsSet :
    (issued (cell codeSetPriority 1 3) (seated .ready)).executes codeSetPriority (cell codeSetPriority 1 3) ∧
    jobOfByte (cell codeSetPriority 1 3).job = some 1 ∧ (live.part.job 1).state = .vacant ∧
    ((seated .ready).part.job 1).state ≠ .vacant ∧ 1 ≤ (cell codeSetPriority 1 3).param0.toNat ∧
    (cell codeSetPriority 1 3).param0.toNat ≤ 3 ∧ (cell codeSetPriority 1 0).param0.toNat < 1 ∧
    3 < (cell codeSetPriority 1 4).param0.toNat := ⟨⟨rfl, rfl⟩, by decide +kernel⟩

theorem witness_PriorityIsSet_choices :
    ((seated .writing).part.candidate 5).isSome = true ∧
    (on (seated .writing) (fun w => w.modJob 1 (fun c => { c with p := 3 }))).part.chosenJob = some 1 :=
  by decide +kernel

theorem witness_JobIsPausedAndResumed :
    (issued (cell codePauseJob 1 0) (seated .ready)).executes codePauseJob (cell codePauseJob 1 0) ∧
    (issued (cell codeResumeJob 1 0) (seated .ready)).executes codeResumeJob (cell codeResumeJob 1 0) ∧
    jobOfByte (cell codePauseJob 1 0).job = some 1 ∧
    ((seated .ready).part.job 1).state.remember = some .running ∧
    (live.part.job 1).state.remember = none ∧
    ((withJob { runningJob with state := .paused }).part.job 1).state = .paused ∧
    ((withJob { runningJob with state := .pausing }).part.job 1).state = .pausing :=
  ⟨⟨rfl, rfl⟩, ⟨rfl, rfl⟩, by decide +kernel⟩

theorem witness_JobIsClosedAndReleased :
    (issued (cell codeCloseJob 1 0) (standing .ready)).executes codeCloseJob (cell codeCloseJob 1 0) ∧
    (issued (cell codeReleaseJob 1 0) (standing .ready)).executes codeReleaseJob (cell codeReleaseJob 1 0) ∧
    ((standing .ready).part.job 1).state = .standby ∧
    ((standing .ready).part.job 1).passActive = false ∧
    ((standing .ready).part.slot 5).member = some 1 ∧ ((standing .ready).part.slot 5).state = .ready ∧
    ((seated .writing).part.job 1).state = .running ∧
    ((withJob { runningJob with state := .ended }).part.job 1).state = .ended :=
  ⟨⟨rfl, rfl⟩, ⟨rfl, rfl⟩, by decide +kernel⟩

theorem witness_JobIsAborted :
    (issued (cell codeAbortJob 1 0) (seated .writing)).executes codeAbortJob (cell codeAbortJob 1 0) ∧
    ((seated .writing).part.job 1).state.abortable = true ∧
    ((seated .writing).part.slot 5).state.live = true ∧
    ((seated .writing).part.slot 5).pendingEnd = .none ∧
    (seated .writing).part.stickInFlight 5 = false ∧
    (inFlight (.data write64 3) 0 (seated .writing)).part.stickInFlight 5 = true ∧
    ((withJob { runningJob with state := .aborting }).part.job 1).state = .aborting ∧
    (live.part.job 1).state = .vacant := ⟨⟨rfl, rfl⟩, by decide +kernel⟩

theorem witness_PassStarts :
    (issued (cell codeStartPass 1 0) (standing .ready)).executes codeStartPass (cell codeStartPass 1 0) ∧
    ((standing .ready).part.job 1).state = .standby ∧ ((standing .ready).part.job 1).passNo ≠ 65535 ∧
    0 < ((standing .ready).part.job 1).chunks ∧ 0 ≤ ((standing .ready).part.job 1).d ∧
    (standing .ready).part.joiners 1 0 = [(5, 0)] ∧ (standing .ready).part.joiners 1 2 = [] ∧
    ((standing .ready).part.job 1).chunks ≤ 4 ∧ ((standing .ready).part.job 1).d < 3 :=
  ⟨⟨rfl, rfl⟩, by decide +kernel⟩

theorem witness_IntakeStarts :
    (on (seated .writing) (fun w => w.modJob 1 (fun c => { c with p := 3 }))).part.reports = true ∧
    (on (seated .writing) (fun w => w.modJob 1 (fun c => { c with p := 3 }))).part.intake = none ∧
    (on (seated .writing) (fun w => w.modJob 1 (fun c => { c with p := 3 }))).part.chosenJob = some 1 := by
  decide +kernel

theorem witness_FirstIntakeIsTakenIn : voidIntake.wf ∧
    voidIntake.part.intake = some { job := 1, chunk := 2, crc := crcInit, reIntake := false } ∧
    (voidIntake.part.job 1).state ≠ .aborting ∧ 4096 ≤ (voidIntake.part.job 1).record.digestOffset :=
  ⟨(by decide : voidIntake.mem.wf), by decide +kernel⟩

/-- The intake of a VOID chunk of job 1 as a re-intake. -/
def voidReIntake : State :=
  withPart voidIntake (fun p => { p with
    intake := some { job := 1, chunk := 1, crc := crcInit, reIntake := true } })

theorem witness_OtherIntakesEnd :
    voidReIntake.part.intake = some { job := 1, chunk := 1, crc := crcInit, reIntake := true } ∧
    (voidReIntake.part.job 1).chunkClass 1 = .void ∧
    digestEqual (Memory.apply [] [(0x800C, 3)]) 0x8008 ((voidReIntake.part.job 1).chunkCrc [] 1 crcInit)
      .void = true ∧
    digestEqual [] 0x8008 ((voidReIntake.part.job 1).chunkCrc [] 1 crcInit) .void = false ∧
    ((withJob { runningJob with state := .aborting }).part.job 1).state = .aborting ∧
    (voidIntake.part.job 1).chunkClass 3 = .data := by decide +kernel

theorem witness_JobTransitionsAreMade :
    ((withJob { runningJob with state := .pausing }).part.job 1).state = .pausing ∧
    (withJob { runningJob with state := .pausing }).part.dataInFlight 1 = false ∧
    ((withJob { runningJob with state := .closing }).part.job 1).state = .closing ∧
    (withJob { runningJob with state := .closing }).part.hasLiveMember 1 = false ∧
    (withJob { runningJob with state := .closing }).part.activeSet 1 = [] ∧
    ((seated .deferred).part.job 1).passActive = true ∧ (seated .deferred).part.activeSet 1 = [] ∧
    ((seated .deferred).part.job 1).intakeInFlight = false ∧
    ((seated .deferred).part.job 1).state = .running ∧
    (seated .deferred).part.resumePoints 1 ≠ [] := by decide +kernel

/-- A pass that ends in PAUSED. -/
theorem test_passEnd_paused :
    gives (.passEnd 1) (withJob { runningJob with state := .paused, remembered := .running })
      (fun t => decide ((t.part.job 1).state = .paused) && decide ((t.part.job 1).remembered = .standby)) =
        true := by decide +kernel

/-- Job 1 lags behind slot 5, its timer expired. -/
def lagging (policy : LagPolicy) : State :=
  on (seated .writing) (fun w => w.modJob 1 (fun c =>
    { c with lagRunning := true, lagTimer := 100, record := { c.record with policy := policy } }))

theorem witness_LaggardsAreMarked : (lagging .defer).part.lagExpired 1 = true ∧
    ((lagging .defer).part.job 1).state ≠ .closing ∧ ((lagging .defer).part.job 1).state ≠ .aborting ∧
    5 ∈ (lagging .defer).part.laggards 1 ∧ ((lagging .defer).part.slot 5).pendingEnd = .none ∧
    (lagging .defer).part.stickInFlight 5 = false ∧
    (inFlight (.data write64 3) 0 (lagging .defer)).part.stickInFlight 5 = true ∧
    ((lagging .defer).part.job 1).record.policy = .defer ∧
    ((lagging .fail).part.job 1).record.policy = .fail ∧ 6 ∉ (lagging .defer).part.laggards 1 ∧
    ((lagging .defer).part.slot 6).state ≠ .ready := by decide +kernel

/-- Slot 5 lags behind slot 6, which has written the whole window, and holds a pending end. -/
def ejectedLaggard : State :=
  on (inFlight (.data write64 3) 0 (lagging .defer)) (fun w =>
    ((w.modSlot 5 (fun s => { s with pendingEnd := .operator })).modSlot 6 (fun s =>
      { s with state := .writing, member := some 1, writeChunk := 2 })).modJob 1 (fun c =>
        { c with record := { c.record with depth := 2 } }))

theorem witness_LaggardsAreMarked_none : ejectedLaggard.part.lagExpired 1 = true ∧
    ejectedLaggard.part.laggards 1 = [5] ∧ (ejectedLaggard.part.slot 5).pendingEnd ≠ .none ∧
    ejectedLaggard.part.lagCondition 1 = true ∧
    (ejectedLaggard.part.job 1).f = ejectedLaggard.part.lowestCursor 1 := by decide +kernel

/-- An expiry that marks nobody leaves its spent mark while the lag condition holds (R48). -/
theorem test_lagHoldTimerExpiry_none : gives (.lagHoldTimerExpiry 1) ejectedLaggard (fun t =>
    (t.part.job 1).lagSpent && decide ((t.part.job 1).lagTimer = 100) && !(t.part.job 1).lagRunning &&
      decide ((t.part.slot 5).pendingEnd = .operator)) = true := by decide +kernel

/-- ASSIGN_SLOTS of slots 254 and 255, the last ones, to job 1. -/
def lastSlots : CommandCell := { cell codeAssignSlots 1 0 with slot := 254 }

theorem witness_SlotsAreAssigned :
    (issued lastSlots (withJob runningJob)).executes codeAssignSlots lastSlots ∧
    assignedJob 4 = none ∧ assignedJob 0xFF = some none ∧ assignedJob lastSlots.job = some (some 1) ∧
    lastSlots.slotCount.toNat ≠ 0 ∧ lastSlots.slot.toNat + lastSlots.slotCount.toNat ≤ 256 ∧
    256 < 255 + lastSlots.slotCount.toNat ∧
    (slotRange 254 2).find? ((withJob runningJob).part.busyFor (some 1)) = none ∧
    (slotRange 5 2).find? ((seated .ready).part.busyFor (some 2)) = some 5 :=
  ⟨⟨rfl, rfl⟩, by decide +kernel⟩

theorem witness_FilterAndIndicatorAreSet :
    (issued (cell codeSetFilter 0 0x1000) live).executes codeSetFilter (cell codeSetFilter 0 0x1000) ∧
    areaFits live.part.straps (cell codeSetFilter 0 0x1000).param0.toNat 72 = true ∧
    areaFits live.part.straps (cell codeSetFilter 0 0).param0.toNat 72 = false ∧
    (unit (.readingFilter (cell codeSetFilter 0 0x1000) 0x1000) live).part.command =
      .readingFilter (cell codeSetFilter 0 0x1000) 0x1000 ∧
    (issued (cell codeSetIndicator 0 5) live).executes codeSetIndicator (cell codeSetIndicator 0 5) ∧
    slotOfNat 255 = some 255 ∧ slotOfNat 256 = none ∧ overrideOf 5 = some .blinkAmber ∧
    overrideOf 6 = none :=
  ⟨⟨rfl, rfl⟩, by decide +kernel, by decide +kernel, rfl, ⟨rfl, rfl⟩, by decide +kernel⟩

/-- A filter that rejects product 2 of vendor 1 by its entries 3 and 5, and any other stick by its mask. -/
def someFilter : AdmissionFilter :=
  { AdmissionFilter.reset with
    entries := (AdmissionFilter.reset.entries.set 3
      { valid := true, reject := true, vendor := 1, product := 2 }).set 5
      { valid := true, reject := false, vendor := 1, product := 2 },
    mask := 0xFFFFFFFFFFFFFFFF }

/-- The configuration of slot 5 is selected under that filter. -/
def selecting : State :=
  withPart (inFlight (.control .selectConfiguration) 10
    (alone .enumerating (fun s => { s with vendor := 1, product := 2 }))) (fun p =>
      { p with filter := someFilter })

theorem witness_FilterAndIndicatorAreSet_rejected :
    (someFilter.entries.get 3).valid = true ∧ (someFilter.entries.get 5).valid = true ∧
    (someFilter.entries.get 2).valid = false ∧ someFilter.rejects 1 2 = true ∧
    someFilter.rejects 2 1 = true ∧ AdmissionFilter.reset.rejects 2 1 = false ∧
    (selecting.part.placeOf 5).map (·.transaction) = some (.control .selectConfiguration) ∧
    (selecting.part.slot 5).pendingEnd = .none ∧
    gives (.transactionCompletion 5 (.control .good) false []) selecting (fun t =>
      decide ((t.part.slot 5).state = .rejected) && decide ((t.part.slot 5).reason = .filtered)) = true := by
  decide +kernel

/-- An indicator request of slot 5 in flight, its timer expired; another value may wait. -/
def lighting (waits : Option Lamp) : State :=
  inFlight (.lamp .green) 2000 (alone .passed (fun s => { s with desired := .green, pendingLamp := waits }))

theorem witness_FilterAndIndicatorAreSet_lamp :
    ((lighting none).part.placeOf 5).map (·.transaction) = some (.lamp .green) ∧
    ((lighting none).part.lane (laneOf 5)).health < 7 ∧
    gives (.transactionCompletion 5 (.control .good) false []) (lighting none) (fun t =>
      decide ((t.part.slot 5).lastSent = some .green) && !t.part.isReady 5 .lamp) = true ∧
    gives (.transactionCompletion 5 (.control .refused) false []) (lighting none) (fun t =>
      decide ((t.part.slot 5).pendingLamp = some .green) && t.part.isReady 5 .lamp) = true ∧
    gives (.transactionTimerExpiry 5) (lighting (some .amber)) (fun t =>
      decide ((t.part.slot 5).pendingLamp = some .amber) &&
        decide ((t.part.lane 0).health = 1)) = true := by decide +kernel

theorem witness_SlotIsEjected :
    (issued (cell codeEjectSlot 0 0) (alone .idle id)).executes codeEjectSlot (cell codeEjectSlot 0 0) ∧
    slotOfNat 256 = none ∧ slotOfNat (cell codeEjectSlot 0 0).slot.toNat = some 5 ∧
    ((alone .idle id).part.slot 5).state.live = true ∧
    ((alone .idle id).part.slot 5).pendingEnd = .none ∧ (alone .idle id).part.stickInFlight 5 = false ∧
    (inFlight (.data write64 3) 0 (seated .writing)).part.stickInFlight 5 = true ∧
    ((alone .passed id).part.slot 5).state.live = false := ⟨⟨rfl, rfl⟩, by decide +kernel⟩

/-- A life that holds a pending end keeps it. -/
theorem test_ejectSlot_pending :
    let s := issued (cell codeEjectSlot 0 0) (seatedWith .writing (fun s => { s with pendingEnd := .defer }))
    (s.part.slot 5).state.live = true ∧ (s.part.slot 5).pendingEnd ≠ .none ∧
    gives .ejectSlot s (fun t => ended t .done 0 0 && decide (t.part.slot 5 = s.part.slot 5)) = true := by
  decide +kernel

theorem witness_AttachBeginsALife : (tower.part.lane (laneOf 5)).state = .up ∧
    tower.part.portOn 5 = true ∧ (tower.part.slot 5).state = .empty ∧
    (tower.part.slot 5).outcomePending = false ∧
    ((alone .empty (fun s => { s with outcomePending := true })).part.slot 5).outcomePending = true ∧
    (on tower (fun w => w.setPort 5 .locked)).part.portOn 5 = false ∧
    gives (.attachNotice 5) (alone .idle id) (fun t => decide ((t.part.slot 5).state = .empty) &&
      (t.part.slot 5).attachWaiting && decide ((t.part.slot 5).reason = .removed)) = true ∧
    gives (.attachNotice 5) (alone .passed id) (fun t =>
      decide ((t.part.slot 5).state = .settling)) = true ∧
    ((alone .empty (fun s => { s with attachWaiting := true })).part.slot 5).attachWaiting = true ∧
    (live.part.lane (laneOf 5)).state ≠ .up := by decide +kernel

theorem witness_DetachEndsALife : (tower.part.lane (laneOf 5)).state = .up ∧
    ((alone .idle id).part.slot 5).state.live = true ∧
    ((alone .idle id).part.slot 5).state ≠ .settling ∧
    ((alone .settling id).part.slot 5).state = .settling ∧ (tower.part.slot 5).state = .empty := by
  decide +kernel

/-- A member with a pending end and nothing in flight. -/
def ending (e : PendingEnd) : State := seatedWith .writing (fun s => { s with pendingEnd := e })

theorem witness_PendingEndApplies : (ending .operator).part.stickInFlight 5 = false ∧
    ((ending .operator).part.slot 5).pendingEnd = .operator ∧
    ((ending .aborted).part.slot 5).pendingEnd = .aborted ∧
    ((ending .imageChanged).part.slot 5).pendingEnd = .imageChanged ∧
    ((ending .laggard).part.slot 5).pendingEnd = .laggard ∧
    ((ending .defer).part.slot 5).pendingEnd = .defer ∧
    ((ending .defer).part.slot 5).member = some 1 ∧ ((ending .defer).part.job 1).state = .running ∧
    ((ending .defer).part.job 1).passActive = true := by
  decide +kernel

theorem witness_SlotTimersExpire :
    (alone .settling (fun s => { s with settle := 200 })).part.reports = true ∧
    ((alone .settling (fun s => { s with settle := 200 })).part.slot 5).state = .settling ∧
    tower.part.settings.settleTime ≤
      ((alone .settling (fun s => { s with settle := 200 })).part.slot 5).settle ∧
    ((alone .sizing (fun s => { s with backoff := some 100 })).part.slot 5).backoff = some 100 := by
  decide +kernel

theorem witness_LanesAreReset : (tower.part.lane 0).state = .up ∧
    ((alone .idle id).part.slot (slotOf 0 5)).state.live = true ∧
    (inFlight (.data write64 3) 2000 (seated .writing)).part.placeOf 5 =
      some { port := 5, address := 11, transaction := .data write64 3, timer := 2000,
             timeout := 2000, disowned := false } ∧
    ((on tower (fun w => w.modLane 0 (fun l => { l with health := 7 }))).part.lane (laneOf 5)).health = 7 :=
  by decide +kernel

/-- The eighth expiry in a row meets a slot that holds a pending end. -/
def eighthExpiry : State :=
  on (inFlight (.data write64 3) 2000 (seatedWith .writing (fun s => { s with pendingEnd := .operator })))
    (fun w => w.modLane 0 (fun l => { l with health := 7 }))

theorem witness_LanesAreReset_pending : (eighthExpiry.part.slot 5).pendingEnd ≠ .none ∧
    (eighthExpiry.part.slot 5).state.live = true ∧ (eighthExpiry.part.lane 0).health = 7 ∧
    (eighthExpiry.part.slot (slotOf 0 4)).state.live = false ∧
    gives (.transactionTimerExpiry 5) eighthExpiry (fun t =>
      decide ((t.part.slot 5).reason = .laneReset) && decide ((t.part.slot 5).retries = 0)) = true := by
  decide +kernel

theorem witness_LaneGrants : tower.part.mayGrant 0 = true ∧ (tower.part.lane 0).emptyPlace = some 0 ∧
    ((on tower (fun w => w.request 5 .portReset)).part.lane 0).controlChoice =
      some { port := 5, kind := .portReset } ∧
    ((seated .writing).part.lane 0).controlChoice = none ∧
    ((seated .writing).part.dataChoice 0).isSome = true ∧ (tower.part.lane 0).controlChoice = none ∧
    tower.part.dataChoice 0 = none := by decide +kernel

/-- The write in flight of slot 5. -/
def writing : State := inFlight (.data write64 3) 10 (seated .writing)

theorem witness_GoodWriteAdvances : hostWritesFit writing.part.straps [(0x10000, 1)] = true ∧
    writing.part.placeOf 5 = some { port := 5, address := 11, transaction := .data write64 3, timer := 10,
                                    timeout := 2000, disowned := false } ∧
    write64.kind = .imageWrite ∧ classify (passedAnswer 3 32768) write64 3 = .good ∧
    (writing.part.slot 5).member = some 1 ∧ (writing.part.slot 5).state = .writing ∧
    (writing.part.slot 5).pendingEnd = .none ∧ (writing.part.job 1).passActive = true ∧
    (writing.part.job 1).state ≠ .aborting ∧
    gives (.transactionCompletion 5 (.data (passedAnswer 3 32768)) false [])
      (on (inFlight (.data { write64 with first := 64 } 3) 0 (seated .writing)) (fun w =>
        w.modSlot 5 (fun s => { s with writeOffset := 64 }))) (fun t =>
          decide ((t.part.job 1).f = 1) && decide ((t.part.job 1).p = 2) &&
            raised t .chunkReleased) = true := by decide +kernel

/-- A word the host writes in any memory in canonical form reads back. -/
theorem word_wordCells (m : Memory) (hm : m.wf) (a : Nat) (c : Word) :
    (m.apply (wordCells a c.toNat)).word a = c := by
  have h : m.apply (wordCells a c.toNat) = m.writeBytes a (leBytes 4 c.toNat) := by
    simp only [Memory.apply, wordCells, List.foldl, Memory.writeBytes, leBytes,
      Nat.div_div_eq_div_mul, Nat.add_assoc, Nat.reduceAdd, Nat.reduceMul]
  have hr := Memory.readBytes_writeBytes (leBytes 4 c.toNat) m a hm
  rw [length_leBytes] at hr
  rw [h, Memory.word, Memory.value, hr, leValue_leBytes 4 _ c.isLt, BitVec.ofNat_toNat]
  simp

/-- A block of zeros read back. -/
def zeroBlock : DataAnswer := { passedAnswer 3 512 with data := List.replicate 512 0 }

/-- The verify read of one block in flight. -/
def readingBack (n : Nat) : State :=
  inFlight (.data { kind := .verifyRead, first := n, count := 1 } 3) 10
    (seatedWith .verifying (fun s => { s with verifyChunk := n / 128, verifyCrc := crcInit }))

/-- A flush, and verify reads of the first block and of the last block of a chunk. -/
theorem witness_GoodWriteAdvances_ends :
    classify (passedAnswer 3 0) { kind := .flush, first := 0, count := 0 } 3 = .good ∧
    (∀ n : Fin 2, classify zeroBlock { kind := .verifyRead, first := 511 * n.val, count := 1 } 3 = .good) ∧
    runningJob.moreIn 0 1 = true ∧ runningJob.moreIn 3 128 = false := by decide +kernel

theorem witness_GoodWriteAdvances_flush :
    gives (.transactionCompletion 5 (.data (passedAnswer 3 0)) false [])
      (inFlight (.data { kind := .flush, first := 0, count := 0 } 3) 10 (seated .writing)) (fun t =>
        decide ((t.part.slot 5).state = .passed)) = true := by decide +kernel

theorem witness_GoodWriteAdvances_unread :
    gives (.transactionCompletion 5 (.data zeroBlock) true []) (readingBack 511) (fun t =>
      decide ((t.part.slot 5).verifyOffset = 0) && decide (t.part.faultDetail = 3)) = true := by
  decide +kernel

/-- A digest entry that the host has put right is equal to what the chunk read back gives, whatever the
bytes. -/
theorem witness_GoodWriteAdvances_equal (data : List Byte) :
    let crc := crcFinal (crcBytes ((readingBack 511).part.slot 5).verifyCrc data)
    ((readingBack 511).mem.apply (wordCells (runningJob.digestEntry 3) crc.toNat)).word
      (runningJob.digestEntry 3) = crc := word_wordCells _ (by decide +kernel) _ _

theorem witness_ProtectedAndIllegalResults :
    classify (failedAnswer 3 .writeProtected) write64 3 = .writeProtected ∧
    classify (failedAnswer 3 .illegalRequest) write64 3 = .illegal ∧ write64.kind ≠ .flush ∧
    classify (failedAnswer 3 .illegalRequest) { kind := .flush, first := 0, count := 0 } 3 = .illegal ∧
    (writing.part.placeOf 5).isSome = true ∧ (writing.part.slot 5).member = some 1 ∧
    (writing.part.slot 5).pendingEnd = .none := by decide +kernel

theorem witness_StickAnswersAreJudged :
    (writing.part.placeOf 5).isSome = true ∧ (writing.part.slot 5).member = some 1 ∧
    (writing.part.slot 5).pendingEnd = .none ∧ (writing.part.slot 5).notReady < 50 ∧
    (writing.part.slot 5).state ≠ .ready ∧ (writing.part.slot 5).state ≠ .deferred ∧
    classify (failedAnswer 3 .unitAttention) write64 3 = .notReady ∧
    classify (passedAnswer 3 8) { kind := .capacity, first := 0, count := 0 } 3 = .good ∧
    (passedAnswer 3 8).blockLength = 512 ∧
    (passedAnswer 3 8).lastBlock.toNat + 1 < max runningJob.span runningJob.record.floor ∧
    classify (failedAnswer 3 .mediumFault) { kind := .probeRead, first := 0, count := 1 } 3 = .medium ∧
    runningJob.moreIn 0 128 = false ∧
    (Memory.word [] (runningJob.digestEntry 0)) ≠ crcFinal (crcBytes crcInit [1]) := by decide +kernel

/-- A stick's interfaces: the second is the one that the class check takes. -/
def someIfaces : List Iface :=
  [{ cls := 0x08, commandSet := 0x06, transport := 0x50, bulkIn := 2, bulkOut := 1 },
   { cls := 0x08, commandSet := 0x06, transport := 0x50, bulkIn := 1, bulkOut := 1 }]

/-- The description of slot 5 is read, or its serial string with one interface that does not pass. -/
theorem witness_StickAnswersAreJudged_class :
    let asks := fun k => inFlight (.control k) 10 (alone .enumerating (fun s =>
      { s with ifaces := someIfaces.take 1 }))
    (someIfaces.map acceptedIface) = [false, true] ∧
    ((asks .readDescription).part.placeOf 5).map (·.transaction) = some (.control .readDescription) ∧
    ((asks .readSerial).part.slot 5).ifaces.find? acceptedIface = none ∧
    gives (.transactionCompletion 5 (.control (.description 1 2 0 someIfaces)) false [])
      (asks .readDescription) (fun t => decide ((t.part.slot 5).iface = someIfaces[1]?) &&
        t.part.isReady 5 .selectConfiguration) = true ∧
    gives (.transactionCompletion 5 (.control (.serial [])) false []) (asks .readSerial) (fun t =>
      decide ((t.part.slot 5).reason = .unsupported)) = true := by decide +kernel

/-- A QUICK probe of one point, in a phase. -/
def onePoint (x : ProbePhase) : ProbePosition := { count := 1, phase := x, index := 0, intact := 0 }

/-- Slot 5 in a state of sizing or probing, a request of it in flight. -/
def probingAt (st : SlotState) (x : ProbePhase) (k : DataKind) (first count : Nat) : State :=
  inFlight (.data { kind := k, first := first, count := count } 3) 10 (on (seatedWith st
    (fun s => { s with probe := some (onePoint x), nonce := 9,
                       capacity := some { lastBlock := 600, blockLength := 512 } }))
    (fun w => w.modJob 1 (fun c => { c with record := { c.record with probe := .quick } })))

/-- The answers on the way through sizing and the probe: GOOD queries, a GOOD write, and reads of a block
that is intact and of one that is not. -/
theorem witness_StickAnswersAreJudged_answers :
    classify (passedAnswer 3 0) { kind := .unitReady, first := 0, count := 0 } 3 = .good ∧
    max runningJob.span runningJob.record.floor ≤ 601 ∧
    (∀ k ∈ [DataKind.probeWrite, .scrubWrite],
      classify (passedAnswer 3 512) { kind := k, first := 600, count := 1 } 3 = .good) ∧
    classify { passedAnswer 3 512 with data := signatureBlock 600 5 9 }
      { kind := .probeRead, first := 600, count := 1 } 3 = .good ∧
    classify zeroBlock { kind := .probeRead, first := 600, count := 1 } 3 = .good ∧
    signatureIntact 600 5 9 (signatureBlock 600 5 9) = true ∧
    signatureIntact 600 5 9 zeroBlock.data = false ∧
    ((probingAt .probing .read .probeRead 600 1).part.slot 5).probe = some (onePoint .read) := by
  decide +kernel

theorem witness_StickAnswersAreJudged_capacity :
    gives (.transactionCompletion 5 (.data { passedAnswer 3 8 with lastBlock := 600 }) false [])
      (probingAt .sizing .write .capacity 0 0) (fun t =>
        decide ((t.part.slot 5).probe = some (onePoint .write)) && decide (t.part.probeSequence = 1)) =
      true := by decide +kernel

theorem witness_StickAnswersAreJudged_write :
    gives (.transactionCompletion 5 (.data (passedAnswer 3 512)) false [])
      (probingAt .probing .write .probeWrite 600 1) (fun t =>
        decide ((t.part.slot 5).probe = some (onePoint .read))) = true := by decide +kernel

theorem witness_StickAnswersAreJudged_scrub :
    gives (.transactionCompletion 5 (.data (passedAnswer 3 512)) false [])
      (probingAt .probing .scrub .scrubWrite 600 1) (fun t =>
        decide ((t.part.slot 5).state = .writing) && decide ((t.part.slot 5).probe = none)) = true := by
  decide +kernel

theorem witness_AdmissionFollowsTheMap :
    let s := inFlight (.control .selectConfiguration) 10 (alone .enumerating id)
    (s.part.placeOf 5).map (·.transaction) = some (.control .selectConfiguration) ∧
    (s.part.slot 5).pendingEnd = .none ∧ (s.part.slot 5).member = none ∧
    s.part.filter.rejects (s.part.slot 5).vendor (s.part.slot 5).product = false ∧
    s.part.mapOf 5 = none ∧ (on s (fun w => w.setMap [5] (some 1))).part.mapOf 5 = some 1 ∧
    (s.part.job 1).state = .vacant ∧ ((withJob runningJob).part.job 1).state = .running := by
  decide +kernel

theorem witness_SerialStringIsKept :
    ((inFlight (.control .readSerial) 10 (alone .enumerating id)).part.placeOf 5).map (·.transaction) =
      some (.control .readSerial) ∧
    ((inFlight (.control .readDescription) 10 (alone .enumerating id)).part.placeOf 5).map
      (·.transaction) = some (.control .readDescription) ∧
    ((alone .enumerating id).part.slot 5).pendingEnd = .none ∧
    (List.map keepChar [0x20, 0x7E, 0x7F, 0x1F]) = [0x20, 0x7E, 0x3F, 0x3F] := by decide +kernel

theorem witness_BrokenTransactionsAreRecovered :
    (writing.part.slot 5).retries < writing.part.settings.retryLimit ∧
    (writing.part.slot 5).stickErrors < writing.part.settings.errorBudget ∧
    (writing.part.slot 5).state ≠ .ready ∧ (writing.part.slot 5).state ≠ .deferred ∧
    (writing.part.lane (laneOf 5)).health < 7 ∧
    ((inFlight (.data write64 3) 2000 (seated .writing)).part.placeOf 5).map
      (fun pl => decide (pl.timeout ≤ pl.timer)) = some true ∧ (2 : Word) ≠ 3 ∧
    (on writing (fun w => w.modJob 1 (fun c =>
      { c with extents := [{ first := 0, count := 512, kind := .copy }] }))).part.copyWrite 5 =
        some write64 ∧
    classify (failedAnswer 3 .mediumFault) write64 3 = .medium ∧ write64.kind ≠ .probeRead := by
  decide +kernel

/-- Slot 5 with its retries spent. -/
def retried : State := on writing (fun w => w.modSlot 5 (fun s => { s with retries := 3 }))

/-- Slot 5 with its error budget spent. -/
def spent : State := on writing (fun w => w.modSlot 5 (fun s => { s with stickErrors := 16 }))

/-- Counts at a limit, and the failures that reach it. -/
theorem witness_BrokenTransactionsAreRecovered_limits :
    retried.part.settings.retryLimit ≤ (retried.part.slot 5).retries ∧
    (spent.part.slot 5).retries < spent.part.settings.retryLimit ∧
    spent.part.settings.errorBudget ≤ (spent.part.slot 5).stickErrors ∧
    classify { passedAnswer 3 0 with dataStalled := true } write64 3 = .stall ∧
    gives (.transactionCompletion 5 (.data (failedAnswer 3 .mediumFault)) false []) retried (fun t =>
      decide ((t.part.slot 5).reason = .writeError)) = true := by decide +kernel

theorem witness_BrokenTransactionsAreRecovered_budget :
    gives (.lateAnswer 5 true 2 true) spent (fun t =>
      decide ((t.part.slot 5).reason = .errorBudget)) = true := by decide +kernel

/-- A reset recovery in flight, and its ends. -/
theorem witness_BrokenTransactionsAreRecovered_recovery :
    let s := inFlight (.control .resetRecovery) 2000 (seated .writing)
    (s.part.placeOf 5).map (·.transaction) = some (.control .resetRecovery) ∧
    (s.part.placeOf 5).map (fun pl => decide (pl.timeout ≤ pl.timer)) = some true ∧
    (s.part.slot 5).pendingEnd = .none ∧ (s.part.lane (laneOf 5)).health < 7 ∧
    gives (.transactionCompletion 5 (.control (.recovery true false true)) false []) s (fun t =>
      decide ((t.part.slot 5).reason = .unresponsive)) = true ∧
    gives (.transactionCompletion 5 (.control (.recovery true true true)) false []) s (fun t =>
      decide ((t.part.slot 5).state = .writing)) = true := by decide +kernel

/-- An enumeration request that is refused, in the first attempt and in the third. -/
theorem witness_BrokenTransactionsAreRecovered_attempt :
    let s := fun n => inFlight (.control .setAddress) 2000
      (alone .enumerating (fun s => { s with attempts := n }))
    ((s 1).part.placeOf 5).map (·.transaction) = some (.control .setAddress) ∧
    gives (.transactionCompletion 5 (.control .refused) false []) (s 1) (fun t =>
      decide ((t.part.slot 5).attempts = 2) && t.part.isReady 5 .portReset) = true ∧
    gives (.transactionTimerExpiry 5) (s 3) (fun t =>
      decide ((t.part.slot 5).reason = .enumFailed)) = true := by decide +kernel

theorem witness_BringUpLeadsUpOrDown :
    ((on live (fun w => w.modLane 0 (fun l => { l with retryWait := some 5000 }))).part.lane 0).retryWait =
      some 5000 ∧
    ((on tower (fun w => w.modLane 0 (fun l => { l with state := .down }))).part.lane 0).state = .down ∧
    (tower.part.board 0).state = .on ∧ (tower.part.lane 0).retryWait = none ∧
    ((lastExchange .bringingUp .off).part.lane 0).state = .bringingUp ∧
    ((lastExchange .resetting .on).part.lane 0).state = .resetting ∧
    ((lastExchange .resetting .on).part.lane 0).tree.isSome = true ∧
    TreeStep.succ (.portPower 15) = none ∧ TreeStep.succ (.portPower 14) = some (.portPower 15) ∧
    Tree.success (lastStep 0) .ok = some true ∧
    Tree.success (lastStep 499) .timedOut = none ∧
    Tree.success (lastStep 500) .timedOut = some false := by
  decide +kernel

/-- An entry into UP with port 5 held in overcurrent, a stick in port 4, and a FAILED slot 6 empty. -/
theorem witness_BringUpLeadsUpOrDown_up :
    let s := on (lastExchange .resetting .on) (fun w =>
      (w.modLane 0 (fun l => { l with tree := some { lastStep 0 with overcurrent := 0x20 } })).modSlot 6
        (fun s => { s with state := .failed }))
    (s.part.slot (slotOf 0 6)).state.terminal = true ∧ (s.part.slot (slotOf 0 4)).state = .empty ∧
    gives (.rebuildExchangeEnd 0 .ok 0x10) s (fun t => t.part.portLocked 5 &&
      t.part.isReady 5 .portPowerOff && decide ((t.part.slot 4).state = .settling) &&
      decide ((t.part.slot 6).state = .empty) && decide ((t.part.lane 0).health = 0) &&
      (allPorts.all fun p => t.part.isReady (slotOf 0 p) .lamp)) = true := by decide +kernel

/-- At an overcurrent a port power off request in flight is abandoned (R134), a port power on request is
left to end (R152). -/
theorem test_overcurrentNotice_power :
    gives (.overcurrentNotice 5) (inFlight (.control .portPowerOff) 10 tower) (fun t =>
      decide (t.part.placeOf 5 = none)) = true ∧
    gives (.overcurrentNotice 5) (inFlight (.control .portPowerOn) 10 tower) (fun t =>
      decide ((t.part.placeOf 5).map (·.disowned) = some true)) = true := by decide +kernel

theorem witness_OvercurrentLocksThePort : (tower.part.lane (laneOf 5)).state = .up ∧
    tower.part.portLocked 5 = false ∧ ((alone .idle id).part.slot 5).state.live = true ∧
    (on tower (fun w => w.setPort 5 .locked)).part.portLocked 5 = true := by decide +kernel

/-- A port power request of slot 5 in flight, its timer expired. -/
def powering (k : ControlKind) : State := inFlight (.control k) 2000 (alone .settling id)

theorem witness_OvercurrentLocksThePort_power :
    ((powering .portPowerOn).part.placeOf 5).map (fun pl => (pl.transaction, pl.disowned)) =
      some (.control .portPowerOn, false) ∧ ((powering .portPowerOn).part.lane (laneOf 5)).health < 7 ∧
    gives (.transactionTimerExpiry 5) (powering .portPowerOn) (fun t => t.part.portLocked 5 &&
      decide ((t.part.slot 5).reason = .overcurrent) && t.part.isReady 5 .portPowerOff) = true ∧
    gives (.transactionCompletion 5 (.control .refused) false []) (powering .portPowerOff) (fun t =>
      !t.part.portLocked 5 && decide (t.part.placeOf 5 = none)) = true ∧
    gives (.transactionCompletion 5 (.control .refused) false []) (on (powering .portPowerOn) (fun w =>
      w.disownPower 5)) (fun t =>
        decide ((t.part.slot 5).state = .settling) && !t.part.portLocked 5) = true := by
  decide +kernel

theorem witness_BoardIsRestored :
    (issued (cell codeRestoreBoard 0 15) live).executes codeRestoreBoard (cell codeRestoreBoard 0 15) ∧
    15 < (cell codeRestoreBoard 0 16).param0.toNat ∧
    (cell codeRestoreBoard 0 15).param0.toNat = (15 : LaneIx).val ∧
    ((State.resetWith fourBoards [] []).part.board 4).state = .unfitted ∧
    (live.part.board 15).state = .off ∧
    ((on live (fun w => w.modBoard 15 (fun b => { b with state := .lost }))).part.board 15).state =
      .lost := ⟨⟨rfl, rfl⟩, by decide +kernel⟩

theorem witness_PortIsRestored :
    (issued (cell codePortRestore 0 0) tower).executes codePortRestore (cell codePortRestore 0 0) ∧
    slotOfNat 256 = none ∧ slotOfNat (cell codePortRestore 0 0).slot.toNat = some 5 ∧
    ((State.resetWith fourBoards [] []).part.board (laneOf 64)).state = .unfitted ∧
    (live.part.board (laneOf 5)).state ≠ .on ∧ (live.part.board (laneOf 5)).state ≠ .unfitted ∧
    (tower.part.board (laneOf 5)).state = .on ∧ (tower.part.board (laneOf 5)).sagging = false ∧
    tower.part.portLocked 5 = false ∧
    (on tower (fun w => w.setPort 5 .locked)).part.portLocked 5 = true ∧
    ((lastExchange .resetting .on).part.lane (laneOf 5)).state = .resetting ∧
    ((alone .failed id).part.slot 5).state.terminal = true := ⟨⟨rfl, rfl⟩, by decide +kernel⟩

theorem witness_BoardsAreSampled : (withPart tower (fun p => { p with time := 16 })).part.converter.busy = none ∧
    (withPart tower (fun p => { p with time := 16 })).part.nextBoard = some 0 ∧
    (converting .on 3 3).part.converter.busy = some (0, 1) ∧
    ((converting .on 3 3).part.board 0).state = .on ∧
    ((converting .ramping 0 0).part.board 0).state = .ramping ∧
    min (((converting .on 3 3).part.board 0).deadRun + 1) 4 = 4 ∧
    tower.part.settings.sagLevel + 2 ≤ 7 := by decide +kernel

theorem witness_PowerGroupsAreTaken :
    let s := on tower (fun w => w.modBoard 0 (fun b =>
      { b with staged := .running 100 100, ports := Vector.replicate 16 .off }))
    s.part.reports = true ∧ (s.part.board 0).sagging = false ∧
      (s.part.board 0).staged = .running 100 100 := by decide +kernel

theorem witness_RecordsAreWritten : (queued false).part.reports = true ∧
    (queued false).part.outcomes.writing = none ∧ (queued false).part.outcomes.queue ≠ [] ∧
    (queued false).part.outcomes.unconsumed < (queued false).part.outcomes.capacity ∧
    (queued true).part.outcomes.writing.isSome = true ∧ 4096 ≤ (queued true).part.outcomes.offset ∧
    ((queued true).part.slot 5).attachWaiting = true ∧
    (queued true).part.outcomes.queue.tail = [] ∧
    ((queued true).part.lane (laneOf 5)).state = .up := by decide +kernel

theorem witness_RecordsAreWritten_wf : (queued true).wf := (by decide : (queued true).mem.wf)

end Sys2Proof.Tests
end

section
/-! SUPPORT. Proofs about the ends of image writes, flushes and verify reads (R96 to R102, R113): what the
end of a DATA transaction keeps of lanes, faults and causes, how F of its job follows (R43, R44), and what
each result makes of the slot. -/

namespace Sys2Proof.WriteVerify

open Sys2Proof.Machine

/-! ### What the end of a transaction hands on -/

/-- The work `w` hands on what `v` held: the health run of every lane, the fault last reported and the
causes raised in every engine state are those of `v`, and every cause that `v` raised is raised. -/
structure Carries (v w : Work) : Prop where
  health : ∀ l, (w.p.lane l).health = (v.p.lane l).health
  faultCode : w.p.faultCode = v.p.faultCode
  faultDetail : w.p.faultDetail = v.p.faultDetail
  now : w.out.now = v.out.now
  causes : ∀ c : BitVec 11, v.out.causes &&& c = c → w.out.causes &&& c = c

namespace Carries

variable {v w : Work}

theorem refl (v : Work) : Carries v v := ⟨fun _ => rfl, rfl, rfl, rfl, fun _ h => h⟩

theorem modSlot (h : Carries v w) (i : SlotIx) (g : Slot → Slot) : Carries v (w.modSlot i g) :=
  ⟨h.health, h.faultCode, h.faultDetail, h.now, h.causes⟩

theorem modJob (h : Carries v w) (j : JobIx) (g : Job → Job) : Carries v (w.modJob j g) :=
  ⟨h.health, h.faultCode, h.faultDetail, h.now, h.causes⟩

theorem modBoard (h : Carries v w) (b : LaneIx) (g : Board → Board) : Carries v (w.modBoard b g) :=
  ⟨h.health, h.faultCode, h.faultDetail, h.now, h.causes⟩

theorem modLane (h : Carries v w) (l : LaneIx) (g : Lane → Lane)
    (hg : (g (w.p.lane l)).health = (w.p.lane l).health) : Carries v (w.modLane l g) where
  health k := by
    rw [Work.modLane_lane, ← h.health k]
    split
    · next e => rw [hg, e]
    · rfl
  faultCode := h.faultCode
  faultDetail := h.faultDetail
  now := h.now
  causes := h.causes

theorem touchSlot (h : Carries v w) (i : SlotIx) : Carries v (w.touchSlot i) :=
  ⟨h.health, h.faultCode, h.faultDetail, h.now, h.causes⟩

theorem touchJob (h : Carries v w) (j : JobIx) : Carries v (w.touchJob j) :=
  ⟨h.health, h.faultCode, h.faultDetail, h.now, h.causes⟩

theorem touchMember (h : Carries v w) (m : Option JobIx) : Carries v (w.touchMember m) := by
  cases m with
  | none => exact h
  | some j => exact h.touchJob j

theorem raise (h : Carries v w) (c : Cause) : Carries v (w.raise c) :=
  ⟨h.health, h.faultCode, h.faultDetail, h.now, fun d hd => bit_or_left (h.causes d hd)⟩

/-- A fold hands on what each of its operations hands on. -/
theorem foldl {α : Type} (f : Work → α → Work) (hf : ∀ w a, Carries v w → Carries v (f w a))
    (as : List α) (h : Carries v w) : Carries v (as.foldl f w) := by
  induction as generalizing w with
  | nil => exact h
  | cons a as ih => exact ih (hf w a h)

/-! #### The operations of a life -/

theorem request (h : Carries v w) (i : SlotIx) (k : ControlKind) : Carries v (w.request i k) :=
  h.modLane _ _ rfl

theorem withdraw (h : Carries v w) (i : SlotIx) (test : ControlKind → Bool) :
    Carries v (w.withdraw i test) :=
  h.modLane _ _ rfl

theorem pendLamp (h : Carries v w) (i : SlotIx) (c : Lamp) : Carries v (w.pendLamp i c) := by
  simp only [Work.pendLamp]
  split
  · exact h.modSlot i _
  · exact (h.modSlot i _).request i _

theorem refreshLamp (h : Carries v w) (i : SlotIx) : Carries v (w.refreshLamp i) := by
  simp only [Work.refreshLamp]
  split
  · exact ((h.modSlot i _).modSlot i _).withdraw i _
  · exact (h.modSlot i _).pendLamp i _

theorem updateProgress (h : Carries v w) (i : SlotIx) : Carries v (w.updateProgress i) := by
  simp only [Work.updateProgress]
  split
  · exact h.modSlot i _
  · exact Carries.touchSlot (h.modSlot i _) i

theorem enterState (h : Carries v w) (i : SlotIx) (st : SlotState) :
    Carries v (w.enterState i st) :=
  have hm : Carries v (((w.modSlot i _).refreshProgress i).refreshMode (laneOf i)) :=
    ((h.modSlot i _).modSlot i _).modBoard _ _
  (((hm.refreshLamp i).touchMember _).touchSlot i).raise _

theorem append (h : Carries v w) (r : OutcomeRecord) : Carries v (w.append r) := by
  have hq (o : OutcomeUnit) : Carries v { w with p := { w.p with outcomes := o } } :=
    ⟨h.health, h.faultCode, h.faultDetail, h.now, h.causes⟩
  simp only [Work.append]
  split
  · exact (hq _).raise _
  · exact hq _

theorem terminal (h : Carries v w) (i : SlotIx) (st : SlotState) (r : Reason) :
    Carries v (w.terminal i st r) := by
  simp only [Work.terminal]
  exact ((((h.modSlot i _).withdraw i _).enterState i st).append _).modSlot i _

/-- The data effect of a GOOD image write touches the slot alone. -/
theorem goodEffect_imageWrite (h : Carries v w) (i : SlotIx) (j : JobIx) {r : DataRequest}
    (a : DataAnswer) (hk : r.kind = .imageWrite) : Carries v (w.goodEffect i j r a) := by
  simp only [Work.goodEffect, hk]
  exact Carries.updateProgress (((h.modSlot i _).modSlot i _).modSlot i _) i

/-! #### The tests of a job -/

theorem recomputeRelease (h : Carries v w) (j : JobIx) : Carries v (w.recomputeRelease j) := by
  simp only [Work.recomputeRelease]
  split
  · split
    · exact ((h.modJob j _).touchJob j).raise _
    · exact (h.modJob j _).touchJob j
  · exact h

theorem failWaiting (h : Carries v w) (j : JobIx) : Carries v (w.failWaiting j) := by
  refine foldl _ (fun u i hu => ?_) _ h
  dsimp only
  split
  · exact hu.terminal i _ _
  · exact hu

theorem endPass (h : Carries v w) (j : JobIx) : Carries v (w.endPass j) := by
  simp only [Work.endPass]
  have hp (g : Job → Job) : Carries v ((w.modJob j g).jobChanged j) :=
    ((h.modJob j g).touchJob j).raise _
  split
  · exact (hp _).failWaiting j
  · split
    · exact hp _
    · exact (hp _).raise _

theorem testPassEnd (h : Carries v w) (j : JobIx) : Carries v (w.testPassEnd j) := by
  simp only [Work.testPassEnd]
  split
  · exact h.endPass j
  · exact h

theorem evalLag (h : Carries v w) (j : JobIx) : Carries v (w.evalLag j) := by
  simp only [Work.evalLag]
  split
  · exact h.modJob j _
  · exact (h.modJob j _).touchJob j

theorem setJobState (h : Carries v w) (j : JobIx) (st : JobState) : Carries v (w.setJobState j st) :=
  ((h.modJob j _).touchJob j).raise _

theorem testPaused (h : Carries v w) (j : JobIx) : Carries v (w.testPaused j) := by
  simp only [Work.testPaused]
  split
  · exact h.setJobState j _
  · exact h

theorem testEnded (h : Carries v w) (j : JobIx) : Carries v (w.testEnded j) := by
  simp only [Work.testEnded]
  split
  · exact h.setJobState j _
  · exact h

/-- The tests of a job hand on all that they find. -/
theorem jobTests (h : Carries v w) (j : JobIx) : Carries v (w.jobTests j) :=
  ((((h.recomputeRelease j).testPassEnd j).evalLag j).testPaused j).testEnded j

end Carries

/-! ### F of a job follows the lowest cursor (R43, R44) -/

/-- The cursor chunk of a slot, if it is in the active set of the job (R41). -/
def activeCursor (p : Part) (j : JobIx) (k : SlotIx) : Option Nat :=
  if p.active j k then some (p.slot k).writeChunk else none

/-- The staging counts of a job, with the depth and the chunk count that bound P (R32). -/
def stagingCounts (c : Job) : Nat × Nat × Nat × Nat × Nat × Nat :=
  (c.v, c.p, c.i, c.f, c.record.depth, c.chunks)

theorem activeCursor_of_not_writing {p : Part} {k : SlotIx} (j : JobIx)
    (h : (p.slot k).state ≠ .writing) : activeCursor p j k = none := by
  simp [activeCursor, Part.active, h]

theorem activeCursor_congr {p q : Part} {k : SlotIx} (j : JobIx) (h : p.slot k = q.slot k) :
    activeCursor p j k = activeCursor q j k := by
  unfold activeCursor Part.active
  rw [h]

/-- min(I, the lowest cursor chunk of the active set) depends on I and the active cursors alone. -/
theorem lowestCursor_eq (p : Part) (j : JobIx) :
    p.lowestCursor j = (allSlots.filterMap (activeCursor p j)).foldl min (p.job j).i := by
  rw [Part.lowestCursor, Part.activeSet, List.foldl_filter, List.foldl_filterMap]
  congr 1
  funext m k
  cases h : p.active j k <;> simp [activeCursor, h]

theorem lowestCursor_congr {p q : Part} (j : JobIx)
    (hc : ∀ k, activeCursor p j k = activeCursor q j k) (hi : (p.job j).i = (q.job j).i) :
    p.lowestCursor j = q.lowestCursor j := by
  rw [lowestCursor_eq, lowestCursor_eq, funext hc, hi]

/-- A waiting member that fails was in no active set, and is in none afterwards. -/
theorem failWaiting_activeCursor (w : Work) (j : JobIx) (k : SlotIx) :
    activeCursor (w.failWaiting j).p j k = activeCursor w.p j k := by
  refine foldl_keeps (fun u => activeCursor u.p j k) _ (fun u i => ?_) _ w
  dsimp only
  split
  · next hw =>
    by_cases e : k = i
    · subst e
      have hn : (u.p.slot k).state ≠ .writing := by
        intro hs
        simp [hs] at hw
      rw [activeCursor_of_not_writing j hn, activeCursor_of_not_writing j (by simp)]
    · exact activeCursor_congr j (Work.fail_slot_ne _ _ _ e)
  · rfl

theorem endPass_activeCursor (w : Work) (j : JobIx) (k : SlotIx) :
    activeCursor (w.endPass j).p j k = activeCursor w.p j k := by
  simp only [Work.endPass]
  split
  · exact failWaiting_activeCursor _ j k
  · split <;> rfl

theorem endPass_stagingCounts (w : Work) (j : JobIx) :
    stagingCounts ((w.endPass j).p.job j) = stagingCounts (w.p.job j) := by
  simp only [Work.endPass]
  (repeat' split) <;> simp [stagingCounts]

theorem testPassEnd_activeCursor (w : Work) (j : JobIx) (k : SlotIx) :
    activeCursor (w.testPassEnd j).p j k = activeCursor w.p j k := by
  simp only [Work.testPassEnd]
  split
  · exact endPass_activeCursor w j k
  · rfl

theorem testPassEnd_stagingCounts (w : Work) (j : JobIx) :
    stagingCounts ((w.testPassEnd j).p.job j) = stagingCounts (w.p.job j) := by
  simp only [Work.testPassEnd]
  split
  · exact endPass_stagingCounts w j
  · rfl

theorem evalLag_stagingCounts (w : Work) (j : JobIx) :
    stagingCounts ((w.evalLag j).p.job j) = stagingCounts (w.p.job j) := by
  simp only [Work.evalLag]
  split <;> simp [stagingCounts]

theorem setJobState_stagingCounts (w : Work) (j : JobIx) (st : JobState) :
    stagingCounts ((w.setJobState j st).p.job j) = stagingCounts (w.p.job j) := by
  simp [Work.setJobState, stagingCounts]

theorem testPaused_stagingCounts (w : Work) (j : JobIx) :
    stagingCounts ((w.testPaused j).p.job j) = stagingCounts (w.p.job j) := by
  simp only [Work.testPaused]
  split
  · exact setJobState_stagingCounts w j _
  · rfl

theorem testEnded_stagingCounts (w : Work) (j : JobIx) :
    stagingCounts ((w.testEnded j).p.job j) = stagingCounts (w.p.job j) := by
  simp only [Work.testEnded]
  split
  · exact setJobState_stagingCounts w j _
  · rfl

/-- Of the tests of a job, only the first changes its staging counts. -/
theorem jobTests_stagingCounts (w : Work) (j : JobIx) :
    stagingCounts ((w.jobTests j).p.job j) = stagingCounts ((w.recomputeRelease j).p.job j) := by
  rw [Work.jobTests, testEnded_stagingCounts, testPaused_stagingCounts, evalLag_stagingCounts,
    testPassEnd_stagingCounts]

theorem recomputeRelease_i (w : Work) (j : JobIx) :
    ((w.recomputeRelease j).p.job j).i = (w.p.job j).i := by
  simp only [Work.recomputeRelease]
  (repeat' split) <;> simp

/-- The tests of a job change no cursor of its active set, and I neither. -/
theorem jobTests_lowestCursor (w : Work) (j : JobIx) :
    (w.jobTests j).p.lowestCursor j = w.p.lowestCursor j := by
  have hcounts := jobTests_stagingCounts w j
  simp only [stagingCounts, Prod.mk.injEq] at hcounts
  obtain ⟨-, -, hi, -, -, -⟩ := hcounts
  refine lowestCursor_congr j (fun k => ?_) (by rw [hi, recomputeRelease_i])
  calc activeCursor (w.jobTests j).p j k
      = activeCursor ((w.recomputeRelease j).testPassEnd j).p j k :=
        activeCursor_congr j (by simp [Work.jobTests])
    _ = activeCursor (w.recomputeRelease j).p j k := testPassEnd_activeCursor _ j k
    _ = activeCursor w.p j k := activeCursor_congr j (by simp)

/-- F recomputed in an active pass (R43): it is the lowest cursor, P is formed again where it has changed
(R32), and a rise is raised (R44). -/
theorem recomputeRelease_spec (w : Work) (j : JobIx) (hp : (w.p.job j).passActive = true)
    (ha : (w.p.job j).state ≠ .aborting) :
    let c := (w.recomputeRelease j).p.job j
    c.f = w.p.lowestCursor j ∧
      (c.f ≠ (w.p.job j).f → c.p = min c.v (min (c.f + c.record.depth) c.chunks)) ∧
      ((w.p.job j).f < c.f →
        (w.recomputeRelease j).out.causes &&& Cause.chunkReleased.bit = Cause.chunkReleased.bit) := by
  by_cases hf : w.p.lowestCursor j = (w.p.job j).f
  · simp [Work.recomputeRelease, hf]
  · by_cases hlt : (w.p.job j).f < w.p.lowestCursor j
    · simp only [Work.recomputeRelease, hp, ha, hf, hlt, ne_eq, not_false_eq_true, decide_true,
        Bool.and_self, if_true, raise_causes]
      simp [Job.effective]
    · simp [Work.recomputeRelease, hp, ha, hf, hlt, Job.effective]

/-- After the tests of a job, F has followed the lowest cursor of its active set (R43, R44). -/
theorem releaseFollows_jobTests {s s' : State} {w : Work} {j : JobIx}
    (hj : w.p.job j = s.part.job j) (hk : w.p.kept = s.part.kept) :
    ReleaseFollows s (commit s' (w.jobTests j)) j := by
  intro hp ha
  rw [← hj] at hp ha ⊢
  obtain ⟨hf, heff, hrise⟩ := recomputeRelease_spec w j hp ha
  have hcounts := jobTests_stagingCounts w j
  simp only [stagingCounts, Prod.mk.injEq] at hcounts
  obtain ⟨ev, ep, -, ef, ed, en⟩ := hcounts
  rw [commit_part, jobTests_lowestCursor, ev, ep, ef, ed, en]
  refine ⟨hf, heff, fun hlt hr => commit_has_cause _ _ _ ?_ ?_⟩
  · rw [Part.reports_of_kept (Work.jobTests_kept w j), Part.reports_of_kept hk, hr]
  · have hc : Carries (w.recomputeRelease j) (w.jobTests j) :=
      ((((Carries.refl _).testPassEnd j).evalLag j).testPaused j).testEnded j
    exact hc.causes _ (hrise hlt)

/-! ### The freed place -/

theorem placeOf_congr {p q : Part} (i : SlotIx)
    (h : (p.lane (laneOf i)).places = (q.lane (laneOf i)).places) : p.placeOf i = q.placeOf i := by
  simp only [Part.placeOf, Lane.placeOf, Lane.placeList, h]

/-- No place is left to a port whose places are freed (R133). -/
theorem placeOf_freeWhere (l : Lane) (port : PortIx) :
    (l.freeWhere port (fun _ => true)).placeOf port = none := by
  have hnone : (l.freeWhere port (fun _ => true)).placeList.find? (holdsPort port) = none := by
    refine List.find?_eq_none.2 (fun o ho => ?_)
    obtain ⟨k, hk, rfl⟩ := Vector.mem_iff_getElem.1 (Vector.mem_toList_iff.1 ho)
    simp only [Lane.freeWhere, Vector.getElem_ofFn, holdsPort]
    cases hpl : l.places.get ⟨k, hk⟩ with
    | none => simp
    | some pl => by_cases hport : pl.port = port <;> simp [hport]
  rw [Lane.placeOf, hnone]
  rfl

/-- The work at the end of a slot's transaction, before its result is acted on: the place is freed, and a
GOOD end clears the health run of the lane (R133, R135). -/
def freed (s : State) (i : SlotIx) (good : Bool) : Work :=
  ((Work.start s).free i).healthGood (laneOf i) good

section freed

variable (s : State) (i : SlotIx) (good : Bool)

@[simp] theorem freed_slot (k : SlotIx) : (freed s i good).p.slot k = s.part.slot k := by
  simp [freed]

@[simp] theorem freed_job (j : JobIx) : (freed s i good).p.job j = s.part.job j := by
  simp [freed]

theorem freed_kept : (freed s i good).p.kept = s.part.kept := by
  simp [freed]

theorem freed_placeOf : (freed s i good).p.placeOf i = none := by
  rw [placeOf_congr (q := ((Work.start s).free i).p) i (by simp [freed])]
  simp only [Part.placeOf, Work.free, Work.modLane_lane_same, placeOf_freeWhere]

theorem freed_good_health : ((freed s i true).p.lane (laneOf i)).health = 0 := by
  simp [freed, Work.healthGood]

end freed

/-! ### What a result makes of the slot -/

section results

variable (w : Work) (i : SlotIx) (j : JobIx) (r : DataRequest) (a : DataAnswer)

/-- Recomputing the shown progress changes nothing else of the slot (R103). -/
theorem updateProgress_slot :
    (w.updateProgress i).p.slot i =
      { w.p.slot i with progress := w.p.shownProgress (w.p.slot i) } := by
  simp only [Work.updateProgress]
  split <;> simp [Work.refreshProgress]

/-- The data effect of a GOOD image write: the written count rises by the run and the cursor settles past
it (R92, R96). -/
theorem goodEffect_imageWrite (hk : r.kind = .imageWrite) :
    let x := w.p.slot i
    let c := w.p.job j
    let v := c.settleWrite x.writeChunk (r.first + r.count - c.chunkStart x.writeChunk)
    (w.goodEffect i j r a).p.slot i =
      { x with retries := 0, written := x.written + r.count, writeChunk := v.1, writeOffset := v.2,
               progress := ((w.goodEffect i j r a).p.slot i).progress } := by
  simp only [Work.goodEffect, hk]
  rw [updateProgress_slot]
  simp [Work.placeCursor]

/-- The data effect of a GOOD verify read: the CRC is fed, and cursor and verified count pass the run
(R100). -/
theorem goodEffect_verifyRead (hk : r.kind = .verifyRead) :
    let x := w.p.slot i
    (w.goodEffect i j r a).p.slot i =
      { x with retries := 0, verifyCrc := crcBytes x.verifyCrc a.data,
               verifyOffset := r.first + r.count - (w.p.job j).chunkStart x.verifyChunk,
               verified := x.verified + r.count,
               progress := ((w.goodEffect i j r a).p.slot i).progress } := by
  simp only [Work.goodEffect, hk]
  rw [updateProgress_slot]
  simp

/-- The data effect of a GOOD flush: the retry count alone (R107). -/
theorem goodEffect_flush (hk : r.kind = .flush) :
    (w.goodEffect i j r a).p.slot i = { w.p.slot i with retries := 0 } := by
  simp [Work.goodEffect, hk]

/-- The state a member enters whose writing is complete (R98). -/
def afterWriting (c : Job) : SlotState :=
  match c.record.verify with
  | .none => .passed
  | .digest => .verifying

theorem afterWriting_not_waiting (c : Job) :
    afterWriting c ≠ .ready ∧ afterWriting c ≠ .deferred := by
  cases hv : c.record.verify <;> simp [afterWriting, hv]

/-- Writing completed: PASSED with its outcome pending, or VERIFYING from the first chunk with something
to read and with a new CRC; the counts and the membership are kept (R98, R99). -/
theorem finishWriting_slot :
    let c := w.p.job j
    let x := w.p.slot i
    let y := (w.finishWriting i j).p.slot i
    y.state = afterWriting c ∧ y.member = x.member ∧ y.retries = x.retries ∧
      y.stickErrors = x.stickErrors ∧ (c.record.verify = .none → y.outcomePending = true) ∧
      (c.record.verify = .digest →
        (y.verifyChunk, y.verifyOffset) = c.settleVerify 0 0 ∧ y.verifyCrc = crcInit) := by
  cases hv : (w.p.job j).record.verify with
  | none => simp [Work.finishWriting, afterWriting, hv]
  | digest => simp [Work.finishWriting, afterWriting, hv]

/-- A chunk that compares equal: the cursor goes to the next chunk with something to read, or the life
passes (R101). -/
theorem chunkEqual_slot (n : Nat) (hst : (w.p.slot i).state = .verifying) :
    let c := w.p.job j
    let y := (w.chunkEqual i j n).p.slot i
    let next := c.settleVerify (n + 1) 0
    y.state = (if c.chunks ≤ next.1 then .passed else .verifying) ∧
      y.retries = (w.p.slot i).retries ∧ y.verified = (w.p.slot i).verified ∧
      (y.verifyChunk, y.verifyOffset) = next ∧ y.verifyCrc = crcInit ∧
      (c.chunks ≤ next.1 → y.outcomePending = true) := by
  by_cases hlast : (w.p.job j).chunks ≤ ((w.p.job j).settleVerify (n + 1) 0).1
  · simp [Work.chunkEqual, hlast]
  · simp [Work.chunkEqual, hlast, hst]

/-- A chunk whose digest entry cannot be read: it is read back again from its start (R101). -/
theorem chunkAgain_slot (n : Nat) :
    let c := w.p.job j
    let x := w.p.slot i
    (w.chunkAgain i j n).p.slot i =
      { x with verifyCrc := crcInit, verifyChunk := n, verifyOffset := 0,
               verified := x.verified - writtenWithin c.extents (c.chunkStart n) (c.chunkStop n),
               progress := ((w.chunkAgain i j n).p.slot i).progress } := by
  simp only [Work.chunkAgain]
  rw [updateProgress_slot]
  simp

/-- A chunk whose digest entry cannot be read is reported as AREA_READ with area code 3 (R101, R176). -/
theorem areaFault_chunkAgain (s : State) (n : Nat) :
    AreaFault (commit s ((w.chunkAgain i j n).jobTests j)) 3 := by
  have hc : Carries (w.fault .areaRead 3) ((w.chunkAgain i j n).jobTests j) :=
    (((Carries.refl _).modSlot i _).updateProgress i).jobTests j
  rw [AreaFault, commit_part, hc.faultCode, hc.faultDetail]
  refine ⟨rfl, rfl, commit_has_now _ _ _ ?_⟩
  rw [hc.now]
  exact raiseNow_now _ _

end results

/-! ### TRANSACTION_COMPLETION of a member's DATA transaction (R133) -/

section completion

variable {s : State} {i : SlotIx} {j : JobIx} {pl : Place} {r : DataRequest} {tag : Word}
  {a : DataAnswer} {e : Bool} {h : List Host.Cell}

/-- The work that a result of class `c` leaves, before the tests of the job. -/
def judged (s : State) (i : SlotIx) (j : JobIx) (r : DataRequest) (c : ResultClass) (a : DataAnswer)
    (e : Bool) (h : List Host.Cell) : Work :=
  (freed s i (decide (c = .good))).dataResult (s.mem.apply h) i j r c a e

/-- A member's DATA transaction ends, no end of its life pending: its result is acted on and the tests of
its job are made. -/
theorem exec_dataCompletion (hfit : hostWritesFit s.part.straps h = true)
    (hpl : s.part.placeOf i = some pl) (htr : pl.transaction = .data r tag)
    (hmem : (s.part.slot i).member = some j) (hend : (s.part.slot i).pendingEnd = .none)
    {c : ResultClass} (hc : classify a r tag = c) :
    exec (.transactionCompletion i (.data a) e h) s =
      .next (commit (s.hostWrote h) ((judged s i j r c a e h).jobTests j)) := by
  have hw : Work.start (s.hostWrote h) = Work.start s := rfl
  have hx : exec (.transactionCompletion i (.data a) e h) s =
    execTransactionCompletion i (.data a) e h s := rfl
  rw [hx, execTransactionCompletion, hosted_fit _ hfit]
  simp only [hostWrote_part, hpl, Work.complete, htr, hc, hw, hostWrote_mem]
  simp [Work.dataEnd, judged, freed, hmem, hend]

/-- A member's DATA transaction ends, no end of its life pending: its place is free, F of its job follows,
and the slot is as its result leaves it, unless that is READY or DEFERRED. -/
theorem dataCompletion (hfit : hostWritesFit s.part.straps h = true)
    (hpl : s.part.placeOf i = some pl) (htr : pl.transaction = .data r tag)
    (hmem : (s.part.slot i).member = some j) (hend : (s.part.slot i).pendingEnd = .none)
    {c : ResultClass} (hc : classify a r tag = c)
    (hr : ((judged s i j r c a e h).p.slot i).state ≠ .ready)
    (hd : ((judged s i j r c a e h).p.slot i).state ≠ .deferred) :
    ∃ t, exec (.transactionCompletion i (.data a) e h) s = .next t ∧
      t = commit (s.hostWrote h) ((judged s i j r c a e h).jobTests j) ∧
      t.part.slot i = (judged s i j r c a e h).p.slot i ∧ t.part.placeOf i = none ∧
      ReleaseFollows s t j := by
  refine ⟨_, exec_dataCompletion hfit hpl htr hmem hend hc, rfl, ?_, ?_, ?_⟩
  · rw [commit_part, Work.jobTests_slot _ j i hr hd]
  · rw [commit_part, placeOf_congr (q := (freed s i (decide (c = .good))).p) i (by simp [judged]),
      freed_placeOf]
  · exact releaseFollows_jobTests (by simp [judged]) (by simp [judged, freed_kept])

/-! #### The work that each result leaves -/

variable (s i j r a e h)

theorem judged_imageWrite (hk : r.kind = .imageWrite) :
    judged s i j r .good a e h = (freed s i true).goodEffect i j r a := by
  simp [judged, Work.dataResult, Work.goodProceed, hk]

theorem judged_verifyRead (hk : r.kind = .verifyRead) :
    judged s i j r .good a e h =
      ((freed s i true).goodEffect i j r a).compareChunk (s.mem.apply h) i j e := by
  simp [judged, Work.dataResult, Work.goodProceed, hk]

/-- A flush that ends GOOD, and one that ends ILLEGAL alike, completes the writing, with the retry count at
0 (R98, R107). -/
theorem judged_flush_slot {c : ResultClass} (hk : r.kind = .flush) (hc : c = .good ∨ c = .illegal) :
    let k := s.part.job j
    let y := (judged s i j r c a e h).p.slot i
    y.state = afterWriting k ∧ y.member = (s.part.slot i).member ∧ y.retries = 0 ∧
      y.stickErrors = (s.part.slot i).stickErrors ∧
      (k.record.verify = .none → y.outcomePending = true) ∧
      (k.record.verify = .digest →
        (y.verifyChunk, y.verifyOffset) = k.settleVerify 0 0 ∧ y.verifyCrc = crcInit) := by
  have hj : judged s i j r c a e h =
      ((freed s i (decide (c = .good))).goodEffect i j r a).finishWriting i j := by
    obtain rfl | rfl := hc <;> simp [judged, Work.dataResult, Work.goodProceed, hk]
  have hx := finishWriting_slot ((freed s i (decide (c = .good))).goodEffect i j r a) i j
  rw [goodEffect_flush _ i j r a hk, Work.goodEffect_job, freed_job, freed_slot] at hx
  rw [hj]
  exact hx

/-- A member in VERIFYING after a GOOD verify read, before the comparison (R100). -/
theorem verifyRead_slot (hk : r.kind = .verifyRead) (hst : (s.part.slot i).state = .verifying) :
    let x := s.part.slot i
    let y := ((freed s i true).goodEffect i j r a).p.slot i
    y.state = .verifying ∧ y.retries = 0 ∧ y.verifyChunk = x.verifyChunk ∧
      y.verifyOffset = r.first + r.count - (s.part.job j).chunkStart x.verifyChunk ∧
      y.verifyCrc = crcBytes x.verifyCrc a.data ∧ y.verified = x.verified + r.count := by
  dsimp only
  rw [goodEffect_verifyRead _ i j r a hk]
  simp [hst]

/-- A chunk with more to read is not compared yet (R101). -/
theorem judged_verifyRead_more (hk : r.kind = .verifyRead)
    (hst : (s.part.slot i).state = .verifying)
    (hmore : (s.part.job j).moreIn (s.part.slot i).verifyChunk
      (r.first + r.count - (s.part.job j).chunkStart (s.part.slot i).verifyChunk) = true) :
    judged s i j r .good a e h = (freed s i true).goodEffect i j r a := by
  obtain ⟨-, -, hn, ho, -, -⟩ := verifyRead_slot s i j r a hk hst
  rw [judged_verifyRead s i j r a e h hk, Work.compareChunk]
  simp [hn, ho, hmore]

/-- A completed chunk whose digest entry cannot be read is read back again (R101). -/
theorem judged_verifyRead_unread (hk : r.kind = .verifyRead)
    (hst : (s.part.slot i).state = .verifying)
    (hmore : (s.part.job j).moreIn (s.part.slot i).verifyChunk
      (r.first + r.count - (s.part.job j).chunkStart (s.part.slot i).verifyChunk) = false) :
    judged s i j r .good a true h =
      ((freed s i true).goodEffect i j r a).chunkAgain i j (s.part.slot i).verifyChunk := by
  obtain ⟨-, -, hn, ho, -, -⟩ := verifyRead_slot s i j r a hk hst
  rw [judged_verifyRead s i j r a true h hk, Work.compareChunk]
  simp [hn, ho, hmore]

/-- A completed chunk that gives its digest entry is equal (R101). -/
theorem judged_verifyRead_equal (hk : r.kind = .verifyRead)
    (hst : (s.part.slot i).state = .verifying)
    (hmore : (s.part.job j).moreIn (s.part.slot i).verifyChunk
      (r.first + r.count - (s.part.job j).chunkStart (s.part.slot i).verifyChunk) = false)
    (hcrc : (s.mem.apply h).word ((s.part.job j).digestEntry (s.part.slot i).verifyChunk) =
      crcFinal (crcBytes (s.part.slot i).verifyCrc a.data)) :
    judged s i j r .good a false h =
      ((freed s i true).goodEffect i j r a).chunkEqual i j (s.part.slot i).verifyChunk := by
  obtain ⟨-, -, hn, ho, hv, -⟩ := verifyRead_slot s i j r a hk hst
  rw [judged_verifyRead s i j r a false h hk, Work.compareChunk]
  simp [hn, ho, hv, hmore, hcrc]

/-- A WRITE_PROTECTED result, and an ILLEGAL one of anything but a flush, fails the life (R113). -/
theorem judged_fails {c : ResultClass} {reason : Reason}
    (hc : c = .writeProtected ∧ reason = .writeProtect ∨
      c = .illegal ∧ r.kind ≠ .flush ∧ reason = .unsupported) :
    judged s i j r c a e h = (freed s i false).fail i reason := by
  obtain ⟨rfl, rfl⟩ | ⟨rfl, hk, rfl⟩ := hc
  · rfl
  · simp [judged, Work.dataResult, hk]

end completion

/-! ### The obligations -/

/-- Settles O48: each GOOD end leaves the slot as its data effect and what follows it say, and the tests
of the job, which touch only READY and DEFERRED members, make F follow. -/
theorem goodWriteAdvances : Obligations.GoodWriteAdvances := by
  refine ⟨?_, ?_⟩
  · intro s i j pl r tag a e h hfit hpl htr hk hc hmem hst hend
    have hx := goodEffect_imageWrite (freed s i true) i j r a hk
    simp only [freed_slot, freed_job, ← judged_imageWrite s i j r a e h hk] at hx
    have hcar : Carries (freed s i true) ((judged s i j r .good a e h).jobTests j) := by
      rw [judged_imageWrite s i j r a e h hk]
      exact ((Carries.refl _).goodEffect_imageWrite i j a hk).jobTests j
    obtain ⟨t, ht, hwork, hslot, hplace, hrel⟩ := dataCompletion (e := e) hfit hpl htr hmem hend hc
      (by rw [hx]; simp [hst]) (by rw [hx]; simp [hst])
    have hhealth : (t.part.lane (laneOf i)).health = 0 := by
      rw [hwork, commit_part, hcar.health, freed_good_health]
    refine ⟨t, ht, ?_⟩
    rw [hslot, hx]
    exact ⟨hst, rfl, rfl, rfl, rfl, rfl, hplace, hhealth, hrel⟩
  · intro s i j pl r tag a e h hfit hpl htr hc hmem hend x c n stop crc next
    refine ⟨fun hk hst => ?flush, fun hk hst hmore => ?more, fun hk hst hmore he hcrc => ?equal,
      fun hk hst hmore he => ?unread⟩
    case flush =>
      obtain ⟨hst', hm, hret, -, hnone, hdigest⟩ := judged_flush_slot s i j r a e h hk (.inl rfl)
      obtain ⟨hr, hd⟩ := afterWriting_not_waiting c
      obtain ⟨t, ht, -, hslot, hplace, hrel⟩ := dataCompletion (e := e) hfit hpl htr hmem hend hc
        (hst' ▸ hr) (hst' ▸ hd)
      refine ⟨t, ht, hplace, ?_⟩
      rw [hslot, hst']
      exact ⟨hret, hm.trans hmem, fun hv => ⟨by simp [afterWriting, c, hv], hnone hv⟩,
        fun hv => ⟨by simp [afterWriting, c, hv], hdigest hv⟩, hrel⟩
    case more =>
      obtain ⟨hst', hret, hn, ho, hcrc, hver⟩ := verifyRead_slot s i j r a hk hst
      rw [← judged_verifyRead_more s i j r a e h hk hst hmore] at hst' hret hn ho hcrc hver
      obtain ⟨t, ht, -, hslot, hplace, -⟩ := dataCompletion (e := e) hfit hpl htr hmem hend hc
        (by simp [hst']) (by simp [hst'])
      refine ⟨t, ht, hplace, ?_⟩
      rw [hslot]
      exact ⟨hst', hret, hn, ho, hcrc, hver⟩
    case equal =>
      subst he
      obtain ⟨hst', hret, -, -, -, hver⟩ := verifyRead_slot s i j r a hk hst
      obtain ⟨hst2, hret2, hver2, hcur, hcrc2, hout⟩ := chunkEqual_slot _ i j n hst'
      rw [← judged_verifyRead_equal s i j r a h hk hst hmore hcrc] at hst2 hret2 hver2 hcur hcrc2 hout
      rw [Work.goodEffect_job, freed_job] at hst2 hcur hout
      obtain ⟨t, ht, -, hslot, hplace, -⟩ := dataCompletion (e := false) hfit hpl htr hmem hend hc
        (by rw [hst2]; split <;> simp) (by rw [hst2]; split <;> simp)
      refine ⟨t, ht, hplace, ?_⟩
      rw [hslot]
      exact ⟨hst2, hret2.trans hret, hver2.trans hver, hcur, hcrc2, hout⟩
    case unread =>
      subst he
      obtain ⟨hst', hret, -, -, -, hver⟩ := verifyRead_slot s i j r a hk hst
      have hj := judged_verifyRead_unread s i j r a h hk hst hmore
      have hx := chunkAgain_slot ((freed s i true).goodEffect i j r a) i j n
      rw [← hj, Work.goodEffect_job, freed_job] at hx
      obtain ⟨t, ht, hwork, hslot, hplace, -⟩ := dataCompletion (e := true) hfit hpl htr hmem hend hc
        (by rw [hx]; simp [hst']) (by rw [hx]; simp [hst'])
      have hfault : AreaFault t 3 := by
        rw [hwork, hj]
        exact areaFault_chunkAgain _ i j _ _
      refine ⟨t, ht, hplace, ?_⟩
      rw [hslot, hx]
      exact ⟨hst', hret, rfl, rfl, rfl, by rw [hver], hfault⟩

/-- Settles O50: the result fails the life with its reason, and an ILLEGAL flush completes the writing as
a GOOD one does; the tests of the job leave the slot as it then is. -/
theorem protectedAndIllegalResults : Obligations.ProtectedAndIllegalResults := by
  intro s i j pl r tag a e h hfit hpl htr hmem hend
  have hfails (c : ResultClass) (reason : Reason) (hc : classify a r tag = c)
      (hcr : c = .writeProtected ∧ reason = .writeProtect ∨
        c = .illegal ∧ r.kind ≠ .flush ∧ reason = .unsupported) :
      ∃ t, exec (.transactionCompletion i (.data a) e h) s = .next t ∧
        (t.part.slot i).state = .failed ∧ (t.part.slot i).reason = reason ∧
        (t.part.slot i).retries = (s.part.slot i).retries ∧
        (t.part.slot i).stickErrors = (s.part.slot i).stickErrors := by
    have hj := judged_fails s i j r a e h hcr
    obtain ⟨t, ht, -, hslot, -, -⟩ := dataCompletion (e := e) hfit hpl htr hmem hend hc
      (by simp [hj]) (by simp [hj])
    refine ⟨t, ht, ?_⟩
    rw [hslot, hj]
    simp [Work.fail]
  refine ⟨fun hc => hfails _ _ hc (.inl ⟨rfl, rfl⟩),
    fun hc hk => hfails _ _ hc (.inr ⟨rfl, hk, rfl⟩), fun hc hk => ?_⟩
  obtain ⟨hst, -, hret, herr, -, -⟩ := judged_flush_slot s i j r a e h hk (.inr rfl)
  obtain ⟨hr, hd⟩ := afterWriting_not_waiting (s.part.job j)
  obtain ⟨t, ht, -, hslot, -, -⟩ := dataCompletion (e := e) hfit hpl htr hmem hend hc
    (hst ▸ hr) (hst ▸ hd)
  refine ⟨t, ht, ?_⟩
  rw [hslot]
  exact ⟨hst, hret, herr⟩

end Sys2Proof.WriteVerify
end

section
/-! SUPPORT. Proofs about the outcome list (R156 to R161): the judging of a changed list with the settings
it brings (R174), and the start and the end of a record write (R158). -/

namespace Sys2Proof.OutcomeList

open Sys2Proof.Machine

/-! ### Taking the settings (R174) -/

/-- The part with a settings snapshot and its outcome list taken, before any slot or lamp follows. -/
def settingsTaken (p : Part) (n : SettingsSnapshot) : Part :=
  { p with
    settings := n.settings,
    scanTimer := if n.settings.scanInterval = p.settings.scanInterval then p.scanTimer else 0,
    outcomes := { p.outcomes with offset := n.offset, capacity := n.capacity } }

/-- Taking the settings ends the command on a part that keeps what the snapshot set: the slots that settle
at once, the lamps and the waiting test touch none of it. -/
theorem takeSettings_eq (w : Work) (c : CommandCell) (n : SettingsSnapshot) :
    ∃ v : Work, v.p.kept = (settingsTaken w.p n).kept ∧
      w.takeSettings c n = v.endCommand c (if n.mask = 0 then .done else .doneClamped)
        (BitVec.ofNat 32 n.mask) 0 := by
  refine ⟨_, ?_, rfl⟩
  rw [Work.judgeWaiting_kept]
  split
  · exact Work.settleNow_kept _
  · exact (Work.refreshAllLamps_kept _).trans (Work.settleNow_kept _)

/-- The settings and the list's offset and capacity are the snapshot's, the list's counts are kept, and the
result word is the mask of the values not kept. -/
theorem takeSettings_spec (s : State) (w : Work) (c : CommandCell) (n : SettingsSnapshot) :
    let t := commit s (w.takeSettings c n)
    t.part.settings = n.settings ∧ t.part.outcomes.offset = n.offset ∧
      t.part.outcomes.capacity = n.capacity ∧ t.part.outcomes.written = w.p.outcomes.written ∧
      t.part.outcomes.held = w.p.outcomes.held ∧
      EndedWith t c (if n.mask = 0 then .done else .doneClamped) (BitVec.ofNat 32 n.mask) 0 := by
  obtain ⟨v, hk, he⟩ := takeSettings_eq w c n
  rw [he]
  exact ⟨Part.settings_of_kept hk, (Part.offset_of_kept hk :), (Part.capacity_of_kept hk :),
    (Part.written_of_kept hk :), (Part.held_of_kept hk :), endedWith_endCommand _ _ _ _ _ _⟩

/-! ### Judging a changed list (R161, R174) -/

section judging

variable (w : Work) {n : SettingsSnapshot} (c : CommandCell)

theorem judgeList_unconsumed (hu : w.p.outcomes.unconsumed ≠ 0) :
    w.judgeList c n = w.endCommand c .wrongState 0 0 := by
  rw [Work.judgeList, if_pos hu, Work.refuse]

theorem judgeList_noList (hu : w.p.outcomes.unconsumed = 0) (hc : n.capacity = 0) :
    w.judgeList c n = w.takeSettings c n := by
  rw [Work.judgeList, if_neg (fun h => h hu), if_pos hc]

theorem judgeList_outOfRange (hu : w.p.outcomes.unconsumed = 0) (hc : n.capacity ≠ 0)
    (hf : areaFits w.p.straps n.offset (128 * n.capacity) = false) :
    w.judgeList c n = w.endCommand c .badRecord (Detail.areaRange).code 4 := by
  rw [Work.judgeList, if_neg (fun h => h hu), if_neg hc, hf, if_neg Bool.false_ne_true, Work.badRecord]

theorem judgeList_overlaps (hu : w.p.outcomes.unconsumed = 0) (hc : n.capacity ≠ 0)
    (hf : areaFits w.p.straps n.offset (128 * n.capacity) = true) {k : Nat}
    (ho : firstOverlap n.offset (128 * n.capacity) ((6, 0, 4096) :: w.p.liveAreas none) = some k) :
    w.judgeList c n = w.endCommand c .areaConflict 5 (BitVec.ofNat 32 k) := by
  rw [Work.judgeList, if_neg (fun h => h hu), if_neg hc, if_pos hf, ho]

theorem judgeList_free (hu : w.p.outcomes.unconsumed = 0) (hc : n.capacity ≠ 0)
    (hf : areaFits w.p.straps n.offset (128 * n.capacity) = true)
    (ho : firstOverlap n.offset (128 * n.capacity) ((6, 0, 4096) :: w.p.liveAreas none) = none) :
    w.judgeList c n = w.takeSettings c n := by
  rw [Work.judgeList, if_neg (fun h => h hu), if_neg hc, if_pos hf, ho]

end judging

theorem exec_outcomeListChangeJudge {s : State} {c : CommandCell} {n : SettingsSnapshot}
    (hj : s.part.command = .judgingList c n) (hw : s.part.outcomes.writing = none) :
    exec .outcomeListChangeJudge s = .next (commit s ((Work.start s).judgeList c n)) := by
  have hx : exec .outcomeListChangeJudge s = execOutcomeListChangeJudge s := rfl
  rw [hx, execOutcomeListChangeJudge, hj]
  exact guarded_true _ _ (decide_eq_true hw)

/-- Settles O23: each of the four outcomes of the judging is one equation of `judgeList`. -/
theorem listChangeIsJudged : Obligations.ListChangeIsJudged := by
  intro s c n hj hw
  refine ⟨_, exec_outcomeListChangeJudge hj hw, fun hu => ?_, fun hu hc hf => ?_,
    fun k hu hc hf ho => ?_, fun hu h => ?_⟩
  · rw [judgeList_unconsumed (Work.start s) c hu]
    exact refusedWith_endCommand _ _ _ _ _
  · rw [judgeList_outOfRange (Work.start s) c hu hc hf]
    exact refusedWith_endCommand _ _ _ _ _
  · rw [judgeList_overlaps (Work.start s) c hu hc hf ho]
    exact refusedWith_endCommand _ _ _ _ _
  · have hjudged : (Work.start s).judgeList c n = (Work.start s).takeSettings c n := by
      by_cases hc : n.capacity = 0
      · exact judgeList_noList (Work.start s) c hu hc
      · obtain ⟨hf, ho⟩ := h.resolve_left hc
        exact judgeList_free (Work.start s) c hu hc hf ho
    rw [hjudged]
    exact takeSettings_spec s _ c n

/-! ### What the operations of a life leave of the list and of the units written -/

/-- The outcome unit of a work and the units that it wrote itself, those before the status entries
and those after them. -/
def listAndWrites (w : Work) : OutcomeUnit × List (Nat × List Byte) × List (Nat × List Byte) :=
  (w.p.outcomes, w.out.writes, w.out.last)

section life

variable (w : Work) (i : SlotIx)

@[simp] theorem modSlot_listAndWrites (g : Slot → Slot) :
    listAndWrites (w.modSlot i g) = listAndWrites w := rfl

@[simp] theorem request_listAndWrites (k : ControlKind) :
    listAndWrites (w.request i k) = listAndWrites w := rfl

@[simp] theorem withdraw_listAndWrites (test : ControlKind → Bool) :
    listAndWrites (w.withdraw i test) = listAndWrites w := rfl

@[simp] theorem touchMember_listAndWrites (m : Option JobIx) :
    listAndWrites (w.touchMember m) = listAndWrites w := by
  simp [listAndWrites]

@[simp] theorem pendLamp_listAndWrites (x : Lamp) :
    listAndWrites (w.pendLamp i x) = listAndWrites w := by
  simp only [Work.pendLamp]
  split <;> rfl

@[simp] theorem refreshLamp_listAndWrites :
    listAndWrites (w.refreshLamp i) = listAndWrites w := by
  simp only [Work.refreshLamp]
  split
  · rfl
  · rw [pendLamp_listAndWrites, modSlot_listAndWrites]

@[simp] theorem enterState_listAndWrites (st : SlotState) :
    listAndWrites (w.enterState i st) = listAndWrites w :=
  calc listAndWrites (w.enterState i st)
    _ = listAndWrites (((((w.modSlot i (fun s => { s with state := st })).refreshProgress i).refreshMode
          (laneOf i)).refreshLamp i).touchMember (w.p.slot i).member) := rfl
    _ = listAndWrites (((w.modSlot i (fun s => { s with state := st })).refreshProgress i).refreshMode
          (laneOf i)) := by rw [touchMember_listAndWrites, refreshLamp_listAndWrites]
    _ = listAndWrites w := rfl

@[simp] theorem releaseAttach_listAndWrites :
    listAndWrites (w.releaseAttach i) = listAndWrites w := by
  unfold Work.releaseAttach Work.startLife
  split
  · rw [enterState_listAndWrites, modSlot_listAndWrites, modSlot_listAndWrites]
  · rfl

/-- A released attach leaves the outcome-pending flag as it was. -/
@[simp] theorem releaseAttach_outcomePending :
    ((w.releaseAttach i).p.slot i).outcomePending = (w.p.slot i).outcomePending := by
  unfold Work.releaseAttach Work.startLife
  split <;> simp

/-- A released attach begins a life on a lane that is UP (R58). -/
theorem releaseAttach_state_of_up (h : (w.p.lane (laneOf i)).state = .up) :
    ((w.releaseAttach i).p.slot i).state = .settling := by
  unfold Work.releaseAttach Work.startLife
  simp [h]

end life

/-! ### The waiting test (R162) -/

section waiting

variable (w : Work)

@[simp] theorem judgeWaiting_slot (k : SlotIx) : w.judgeWaiting.p.slot k = w.p.slot k := by
  simp only [Work.judgeWaiting]
  split <;> rfl

@[simp] theorem judgeWaiting_writes : w.judgeWaiting.out.writes = w.out.writes := by
  simp only [Work.judgeWaiting]
  split <;> rfl

@[simp] theorem judgeWaiting_last : w.judgeWaiting.out.last = w.out.last := by
  simp only [Work.judgeWaiting]
  split <;> rfl

/-- The test clears marks of queued records and leaves the records themselves. -/
@[simp] theorem judgeWaiting_records :
    w.judgeWaiting.p.outcomes.queue.map (·.outcome) = w.p.outcomes.queue.map (·.outcome) := by
  simp only [Work.judgeWaiting]
  split
  · simp
  · rfl

end waiting

/-! ### The end of a record write (R158) -/

section recordEnd

variable (w : Work) (r : OutcomeRecord)

/-- The work once the record and the new count are handed over and the slot's flag is clear, before a
waiting attach is released. -/
def recorded : Work :=
  let o := w.p.outcomes
  let w1 := w.put o.position (outcomeBytes o.written r)
  (({ w1 with p := { w1.p with outcomes :=
      { o with queue := o.queue.tail, written := o.written + 1, writing := none } } } : Work).put 0x110
        (leBytes 4 (o.written + 1).toNat)).modSlot r.slot (fun s => { s with outcomePending := false })

/-- The work with the slot's waiting attach released, if it has one. -/
def attachReleased : Work :=
  if (w.p.slot r.slot).attachWaiting then (recorded w r).releaseAttach r.slot else recorded w r

theorem endRecord_eq :
    w.endRecord r = ((attachReleased w r).raiseNow .outcomeAdded).judgeWaiting := rfl

/-! #### What is recorded -/

theorem recorded_slot_same :
    (recorded w r).p.slot r.slot = { w.p.slot r.slot with outcomePending := false } :=
  Work.modSlot_slot_same _ _ _

theorem recorded_slot_ne {k : SlotIx} (h : k ≠ r.slot) : (recorded w r).p.slot k = w.p.slot k :=
  Work.modSlot_slot_ne _ _ _ _ h

theorem attachReleased_slot_ne {k : SlotIx} (h : k ≠ r.slot) :
    (attachReleased w r).p.slot k = w.p.slot k := by
  unfold attachReleased
  split
  · rw [Work.releaseAttach_slot_ne _ _ h, recorded_slot_ne w r h]
  · exact recorded_slot_ne w r h

theorem attachReleased_outcomePending :
    ((attachReleased w r).p.slot r.slot).outcomePending = false := by
  unfold attachReleased
  split <;> simp [recorded_slot_same]

theorem attachReleased_state (ha : (w.p.slot r.slot).attachWaiting = true)
    (hl : (w.p.lane (laneOf r.slot)).state = .up) :
    ((attachReleased w r).p.slot r.slot).state = .settling := by
  rw [attachReleased, if_pos ha]
  exact releaseAttach_state_of_up _ _ hl

theorem attachReleased_listAndWrites :
    listAndWrites (attachReleased w r) = listAndWrites (recorded w r) := by
  unfold attachReleased
  split
  · exact releaseAttach_listAndWrites _ _
  · rfl

/-! #### What the end of the write leaves -/

theorem endRecord_slot (k : SlotIx) :
    (w.endRecord r).p.slot k = (attachReleased w r).p.slot k := by
  rw [endRecord_eq, judgeWaiting_slot, Work.raiseNow_p]

/-- The list's counts, place and write in flight are as recorded. -/
theorem endRecord_kept : (w.endRecord r).p.kept = (recorded w r).p.kept := by
  rw [endRecord_eq, Work.judgeWaiting_kept, Work.raiseNow_p, attachReleased]
  split
  · exact Work.releaseAttach_kept _ _
  · rfl

/-- The head has left the queue. -/
theorem endRecord_records :
    (w.endRecord r).p.outcomes.queue.map (·.outcome) =
      w.p.outcomes.queue.tail.map (·.outcome) := by
  have hu : (attachReleased w r).p.outcomes = (recorded w r).p.outcomes :=
    congrArg Prod.fst (attachReleased_listAndWrites w r)
  rw [endRecord_eq, judgeWaiting_records, Work.raiseNow_p, hu]
  rfl

/-- The record is handed over first, the written count after it (R158, R169). -/
theorem endRecord_writes :
    (w.endRecord r).out.writes = w.out.writes ++
      [(w.p.outcomes.position, outcomeBytes w.p.outcomes.written r),
       (0x110, leBytes 4 (w.p.outcomes.written + 1).toNat)] := by
  have hu : (attachReleased w r).out.writes = (recorded w r).out.writes :=
    congrArg (fun x => x.2.1) (attachReleased_listAndWrites w r)
  rw [endRecord_eq, judgeWaiting_writes, Work.raiseNow_writes, hu]
  simp [recorded]

theorem endRecord_last : (w.endRecord r).out.last = w.out.last := by
  have hu : (attachReleased w r).out.last = (recorded w r).out.last :=
    congrArg (fun x => x.2.2) (attachReleased_listAndWrites w r)
  rw [endRecord_eq, judgeWaiting_last, Work.raiseNow_last, hu]
  rfl

theorem endRecord_raises (s : State) : (commit s (w.endRecord r)).port.has .outcomeAdded := by
  apply commit_has_now
  rw [endRecord_eq, Work.judgeWaiting_now]
  exact raiseNow_now _ _

end recordEnd

/-! ### The bytes that the end of a record write leaves -/

/-- The status entries lie behind the header of the exchange block. -/
theorem statusUnits_behindHeader (w : Work) : ∀ u ∈ w.statusUnits, 0x120 ≤ u.1 := by
  intro u hu
  simp only [Work.statusUnits, List.mem_append] at hu
  rcases hu with hu | hu
  · obtain ⟨j, -, rfl⟩ := List.mem_map.mp hu
    simp only [jobUnit, jobOffset]; omega
  · split at hu
    · simp only [List.mem_append, List.mem_map] at hu
      rcases hu with ((⟨i, -, rfl⟩ | ⟨j, -, rfl⟩) | ⟨l, -, rfl⟩) | ⟨b, -, rfl⟩
      · simp only [mirrorUnit, mirrorOffset]; omega
      · simp only [jobUnit, jobOffset]; omega
      · simp only [laneUnit, laneOffset]; omega
      · simp only [boardUnit, boardOffset]; omega
    · cases hu

theorem clockUnit_offset (w : Work) : ∀ u ∈ w.clockUnit, u.1 = 0x118 := by
  intro u hu
  unfold Work.clockUnit at hu
  split at hu
  · rw [List.mem_singleton.mp hu]
  · cases hu

/-- The status entries and the clock lie between the written count and the end of the exchange block. -/
theorem statusAndClock_place (w : Work) :
    ∀ u ∈ w.statusUnits ++ w.clockUnit, 0x118 ≤ u.1 ∧ u.1 + u.2.length ≤ 0x1000 := by
  intro u hu
  rcases List.mem_append.mp hu with hu | hu
  · exact ⟨Nat.le_trans (by decide) (statusUnits_behindHeader w u hu),
      (statusUnits_status w u hu).2⟩
  · exact ⟨Nat.le_of_eq (clockUnit_offset w u hu).symm, (clockUnit_status w u hu).2⟩

/-- A word written in bytes reads back as that word. -/
theorem word_of_readBytes {m : Memory} {x : Nat} {v : Word}
    (h : m.readBytes x 4 = leBytes 4 v.toNat) : m.word x = v := by
  rw [Memory.word, Memory.value, h, leValue_leBytes 4 _ v.isLt, BitVec.ofNat_toNat, BitVec.setWidth_eq]

section bytes

variable (s : State) (r : OutcomeRecord)

/-- The end of a record write writes the record, the count, and then status entries and the clock. -/
theorem commit_endRecord_mem :
    (commit s ((Work.start s).endRecord r)).mem = s.mem.applyUnits
      ((s.part.outcomes.position, outcomeBytes s.part.outcomes.written r) ::
        (0x110, leBytes 4 (s.part.outcomes.written + 1).toNat) ::
        (((Work.start s).endRecord r).statusUnits ++ ((Work.start s).endRecord r).clockUnit)) := by
  rw [commit_mem, Work.units, endRecord_writes, endRecord_last]
  simp [Out.none]

/-- The record stands at its position, beyond the exchange block. -/
theorem endRecord_record (h : s.wf) (ho : 4096 ≤ s.part.outcomes.position) :
    (commit s ((Work.start s).endRecord r)).mem.readBytes s.part.outcomes.position 128 =
      outcomeBytes s.part.outcomes.written r := by
  have hread := Memory.readBytes_applyUnits []
    ((0x110, leBytes 4 (s.part.outcomes.written + 1).toNat) ::
      (((Work.start s).endRecord r).statusUnits ++ ((Work.start s).endRecord r).clockUnit))
    s.part.outcomes.position (outcomeBytes s.part.outcomes.written r) s.mem h (fun u hu => by
      rcases List.mem_cons.mp hu with rfl | hu
      · simp only [length_leBytes]; omega
      · have := statusAndClock_place _ u hu
        omega)
  rw [length_outcomeBytes, List.nil_append] at hread
  rw [commit_endRecord_mem, hread]

/-- The new count stands in the exchange block. -/
theorem endRecord_count (h : s.wf) :
    (commit s ((Work.start s).endRecord r)).mem.word 0x110 = s.part.outcomes.written + 1 := by
  have hread := Memory.readBytes_applyUnits
    [(s.part.outcomes.position, outcomeBytes s.part.outcomes.written r)]
    (((Work.start s).endRecord r).statusUnits ++ ((Work.start s).endRecord r).clockUnit)
    0x110 (leBytes 4 (s.part.outcomes.written + 1).toNat) s.mem h (fun u hu => by
      have := statusAndClock_place _ u hu
      simp only [length_leBytes]; omega)
  rw [length_leBytes, List.singleton_append] at hread
  exact word_of_readBytes (by rw [commit_endRecord_mem, hread])

/-- Beyond the part's fields of the exchange block, only the record's bytes change. -/
theorem endRecord_foreign {x : Nat} (hx : x < 0x100 ∨ 0x1000 ≤ x)
    (hr : x < s.part.outcomes.position ∨ s.part.outcomes.position + 128 ≤ x) :
    (commit s ((Work.start s).endRecord r)).mem.read x = s.mem.read x := by
  rw [commit_endRecord_mem]
  apply Memory.read_applyUnits_outside
  intro u hu
  rcases List.mem_cons.mp hu with rfl | hu
  · rwa [length_outcomeBytes]
  rcases List.mem_cons.mp hu with rfl | hu
  · simp only [length_leBytes]; omega
  · have := statusAndClock_place _ u hu
    omega

end bytes

/-! ### The two commands of a record write -/

theorem exec_outcomeRecordWriteDone {s : State} {r : OutcomeRecord}
    (h : s.part.outcomes.writing = some r) :
    exec .outcomeRecordWriteDone s = .next (commit s ((Work.start s).endRecord r)) := by
  have hx : exec .outcomeRecordWriteDone s = execOutcomeRecordWriteDone s := rfl
  rw [hx, execOutcomeRecordWriteDone, h]
  rfl

/-- A record write may begin with a record queued, room in the list and none in flight. -/
theorem recordDue_of_room {p : Part} {q : Queued} {rest : List Queued} (hr : p.reports = true)
    (hw : p.outcomes.writing = none) (hq : p.outcomes.queue = q :: rest)
    (hu : p.outcomes.unconsumed < p.outcomes.capacity) : p.recordDue = true := by
  simp [Part.recordDue, OutcomeUnit.full, hr, hw, hq, hu]

/-- The write in flight is of the queue's head; the start hands nothing over. -/
theorem outcomeRecordWriteStart_next {s : State} {q : Queued} {rest : List Queued}
    (hd : s.part.recordDue = true) (hq : s.part.outcomes.queue = q :: rest) :
    exec .outcomeRecordWriteStart s = .next { s with part := { s.part with
      outcomes := { s.part.outcomes with writing := some q.outcome } } } := by
  have hx : exec .outcomeRecordWriteStart s = execOutcomeRecordWriteStart s := rfl
  rw [hx, execOutcomeRecordWriteStart, guarded_true _ _ hd, commit_silent _ _ rfl]
  simp [Work.beginRecord, hq]

/-- Settles O60: the start by the condition of R158; the end by what it leaves of the list, of the slot
and of the image memory. -/
theorem recordsAreWritten : Obligations.RecordsAreWritten := by
  refine ⟨fun s q rest hr hw hq hu => ?_, fun s r hwf hw ho => ?_⟩
  · exact ⟨_, outcomeRecordWriteStart_next (recordDue_of_room hr hw hq hu) hq, rfl, rfl, rfl⟩
  · have hpos : 4096 ≤ s.part.outcomes.position := Nat.le_trans ho (Nat.le_add_right _ _)
    have hk := endRecord_kept (Work.start s) r
    refine ⟨_, exec_outcomeRecordWriteDone hw, endRecord_record s r hwf hpos,
      (Part.written_of_kept hk :), (Part.writing_of_kept hk :), (Part.held_of_kept hk :),
      (Part.offset_of_kept hk :), (Part.capacity_of_kept hk :), endRecord_records _ r,
      endRecord_count s r hwf, ?_, fun ha hl => ?_, fun k hne => ?_, endRecord_raises _ r s,
      fun x hx hxr => endRecord_foreign s r hx hxr⟩
    · rw [commit_part, endRecord_slot]
      exact attachReleased_outcomePending _ r
    · rw [commit_part, endRecord_slot]
      exact attachReleased_state _ r ha hl
    · rw [commit_part, endRecord_slot]
      exact attachReleased_slot_ne _ r hne

end Sys2Proof.OutcomeList
end

section
/-! SUPPORT. Proofs about the register window (R163, R164, R175, R179): the fields of the identity register,
what the control register reads as, and which command a register write is. -/

namespace Sys2Proof.RegisterWindow

open Sys2Proof.Machine

/-! ### The five registers as the host reads them -/

/-- The model adds the fields of the identity register and R179 lays them out side by side: no two fields
share a bit, so each sum is the union of its bits. -/
theorem identityRegister_eq_or (x : Straps) :
    identityRegister x = (0x2F560100 : Word) ||| (x.lanes.setWidth 32 <<< 4) |||
      (if x.memory1GiB then 8 else 0) ||| (if x.reference40MHz then 4 else 0) := by
  have sum : identityRegister x = (0x2F560100 : Word) + (x.lanes.setWidth 32 <<< 4) +
      (if x.memory1GiB then 8 else 0) + (if x.reference40MHz then 4 else 0) := by
    apply BitVec.eq_of_toNat_eq
    cases hm : x.memory1GiB <;> cases hr : x.reference40MHz <;>
      simp [identityRegister, Config.partCode, Config.revision, Nat.shiftLeft_eq, hm, hr]
  have lanesFree : ∀ lanes : BitVec 4, (0x2F560100 : Word) &&& (lanes.setWidth 32 <<< 4) = 0 := by
    decide
  have memoryFree : ∀ (lanes : BitVec 4) (memory : Bool),
      ((0x2F560100 : Word) ||| (lanes.setWidth 32 <<< 4)) &&& (if memory then 8 else 0) = 0 := by
    decide
  have referenceFree : ∀ (lanes : BitVec 4) (memory reference : Bool),
      ((0x2F560100 : Word) ||| (lanes.setWidth 32 <<< 4) ||| (if memory then 8 else 0)) &&&
        (if reference then 4 else 0) = 0 := by
    decide
  rw [sum, BitVec.add_eq_or_of_and_eq_zero _ _ (lanesFree _),
    BitVec.add_eq_or_of_and_eq_zero _ _ (memoryFree _ _),
    BitVec.add_eq_or_of_and_eq_zero _ _ (referenceFree _ _ _)]

theorem readRegister_identity (s : State) :
    s.readRegister 0x00 = some ((0x2F560100 : Word) ||| (s.part.straps.lanes.setWidth 32 <<< 4) |||
      (if s.part.straps.memory1GiB then 8 else 0) |||
      (if s.part.straps.reference40MHz then 4 else 0)) :=
  congrArg some (identityRegister_eq_or s.part.straps)

/-- ENABLE reads 1 from the enable until the engine is quiescent (R164). -/
theorem readRegister_control (s : State) :
    s.readRegister 0x04 = some (if s.part.engine = .notEnabled then 0 else 1) := by
  by_cases h : s.part.engine = .notEnabled <;> simp [State.readRegister, Part.enableReads, h]

/-! ### Causes and the interrupt line -/

/-- R179 numbers the cause bits in the order in which the model lists the causes. -/
theorem bit_eq_shift_ctorIdx (c : Cause) : c.bit = 1#11 <<< c.ctorIdx := by
  cases c <;> rfl

theorem interruptLine_iff (p : Port) : p.interruptLine = true ↔ p.cause &&& p.causeEnable ≠ 0 :=
  decide_eq_true_iff

/-! ### The commands that register writes are -/

theorem controlCommand_softReset {v : Word} (h1 : v.getLsbD 1 = true) :
    controlCommand v = .softReset (v.getLsbD 0) :=
  if_pos h1

theorem controlCommand_of_not_reset {v : Word} (h1 : v.getLsbD 1 = false) :
    controlCommand v = if v.getLsbD 0 then .enable else .quiesce :=
  if_neg (Bool.eq_false_iff.mp h1)

theorem controlCommand_enable {v : Word} (h1 : v.getLsbD 1 = false) (h0 : v.getLsbD 0 = true) :
    controlCommand v = .enable :=
  (controlCommand_of_not_reset h1).trans (if_pos h0)

theorem controlCommand_quiesce {v : Word} (h1 : v.getLsbD 1 = false) (h0 : v.getLsbD 0 = false) :
    controlCommand v = .quiesce :=
  (controlCommand_of_not_reset h1).trans (if_neg (Bool.eq_false_iff.mp h0))

/-- Only the four registers with behaviour of their own have a command of their own (R163). -/
theorem registerCommand_of_reserved {o : Nat} (v : Word) (h : registerReserved o = true) :
    registerCommand o v = .registerWrite o v := by
  unfold registerCommand
  split
  case h_5 => rfl
  all_goals exact absurd h (by decide)

/-- Settles O13: reads, the commands that writes are and their effects, each by its own lemma.
Where the model's definition already reads as the statement does, `rfl` says so. -/
theorem registersAreLaidOut : Obligations.RegistersAreLaidOut := by
  intro s v
  refine ⟨readRegister_identity s, readRegister_control s, rfl, rfl, rfl, rfl, rfl,
    bit_eq_shift_ctorIdx _, bit_eq_shift_ctorIdx _, bit_eq_shift_ctorIdx _, bit_eq_shift_ctorIdx _,
    bit_eq_shift_ctorIdx _, bit_eq_shift_ctorIdx _, bit_eq_shift_ctorIdx _, bit_eq_shift_ctorIdx _,
    bit_eq_shift_ctorIdx _, bit_eq_shift_ctorIdx _, bit_eq_shift_ctorIdx _, interruptLine_iff s.port,
    controlCommand_softReset, controlCommand_enable, controlCommand_quiesce, rfl, rfl, rfl,
    fun o ho => ⟨registerCommand_of_reserved v ho, rfl⟩⟩

end Sys2Proof.RegisterWindow
end

section
/-! SUPPORT. Proofs about a step on an empty queue (log entry 1): what one millisecond makes of each timer
(log entry 28), and what it leaves of the records that hold them. -/

namespace Sys2Proof.IdleStep

open Sys2Proof.Machine

/-! ### One timer -/

/-- The condition under which a timer runs, said as a proposition. -/
theorem countOn_of_iff {running : Bool} {c : Prop} [Decidable c] (h : running = true ↔ c)
    (limit t : Nat) : countOn running limit t = if c then min (t + 1) limit else t := by
  simp only [countOn, h]

/-- A timer that a record holds only while it is in use. -/
theorem map_countOn (running : Bool) (limit : Nat) (o : Option Nat) :
    o.map (countOn running limit) =
      if running = true then o.map (fun n => min (n + 1) limit) else o := by
  cases running with
  | true => rfl
  | false => exact Option.map_id'

/-! ### The units of the part after one millisecond -/

section units

variable (p : Part)

@[simp] theorem tick_slot (i : SlotIx) : p.tick.slot i = (p.slot i).tick p.reports :=
  vector_get_ofFn _ i

@[simp] theorem tick_job (j : JobIx) : p.tick.job j = (p.job j).tick :=
  vector_get_ofFn _ j

@[simp] theorem tick_lane (l : LaneIx) : p.tick.lane l = (p.lane l).tick p.reports :=
  vector_get_ofFn _ l

@[simp] theorem tick_board (b : LaneIx) : p.tick.board b = (p.board b).tick p.reports :=
  vector_get_ofFn _ b

end units

/-! ### The timers that each unit holds -/

section timers

variable (reports : Bool)

/-- The settle timer runs in SETTLING only (R59); neither it nor the backoff runs in a quiesce (R69). -/
theorem slot_tick_eq (x : Slot) : x.tick reports = { x with
    settle := if reports = true ∧ x.state = .settling then min (x.settle + 1) 1024 else x.settle,
    backoff := if reports = true then x.backoff.map (fun n => min (n + 1) 100)
      else x.backoff } := by
  have settleRuns : (reports && decide (x.state = .settling)) = true ↔
      reports = true ∧ x.state = .settling := by simp
  rw [Slot.tick, countOn_of_iff settleRuns, map_countOn]
  rfl

/-- The retry wait stops in a quiesce (R120); the timer of an exchange does not (R123). -/
theorem lane_tick_eq (x : Lane) : x.tick reports = { x with
    retryWait := if reports = true then x.retryWait.map (fun n => min (n + 1) 5000)
      else x.retryWait,
    tree := x.tree.map (fun e => { e with timer := min (e.timer + 1) 500 }),
    places := (x.tick reports).places } := by
  rw [Lane.tick, map_countOn]
  rfl

theorem lane_tick_place (x : Lane) (k : Fin 4) : (x.tick reports).places.get k =
    (x.places.get k).map (fun y => { y with timer := min (y.timer + 1) y.timeout }) :=
  vector_get_ofFn _ k

/-- The group interval timer stops in a sag and in a quiesce (R149, R150). -/
theorem board_tick_staged_running {x : Board} {n d : Nat} (h : x.staged = .running n d) :
    (x.tick reports).staged = if reports = true ∧ x.sagging = false
      then .running (min (n + 1) d) d else .running n d := by
  have intervalRuns : (reports && !x.sagging) = true ↔ reports = true ∧ x.sagging = false := by simp
  simp only [Board.tick, h, countOn_of_iff intervalRuns]
  split <;> rfl

/-- A board with no group taken has no interval timer. -/
theorem board_tick_staged_of_not_running {x : Board} (h : ∀ n d, x.staged ≠ .running n d) :
    (x.tick reports).staged = x.staged := by
  cases hs : x.staged with
  | idle | armed => simp only [Board.tick, hs]
  | running n d => exact absurd hs (h n d)

end timers

/-- The registers of the part: the time base advances, the scan interval timer runs while the engine is
enabled and the interval is not 0 (R170), and no other register follows the time. -/
theorem part_tick_eq (p : Part) : p.tick = { p with
    time := p.time + 1,
    scanTimer := if p.reports = true ∧ p.settings.scanInterval ≠ 0
      then min (p.scanTimer + 1) 1000 else p.scanTimer,
    slots := p.tick.slots, jobs := p.tick.jobs, lanes := p.tick.lanes,
    boards := p.tick.boards, converter := p.tick.converter } := by
  have scanRuns : (p.reports && decide (p.settings.scanInterval ≠ 0)) = true ↔
      p.reports = true ∧ p.settings.scanInterval ≠ 0 := by simp
  rw [Part.tick, countOn_of_iff scanRuns]

theorem step_of_pending_nil {s : Machine.State} (h : s.pending = []) :
    step s = .next (tick s) := by
  simp only [step, h]

/-- Settles O2: the step is `tick`, and each unit is read back from the ticked part by its own lemma. The
lag hold timer, the converter's time and what a board keeps stand in the model as the statement says them. -/
theorem idleStepIsOneMillisecond : Obligations.IdleStepIsOneMillisecond := by
  intro s queueEmpty
  refine ⟨tick s, step_of_pending_nil queueEmpty, rfl, rfl, queueEmpty, part_tick_eq s.part,
    fun i => ?slot, fun j => ?job, fun l => ?lane, fun l k => ?place, fun b => ?board,
    fun b n d running => ?interval, fun b notRunning => ?noInterval, rfl⟩
  case slot => exact (tick_slot s.part i).trans (slot_tick_eq _ _)
  case job => exact tick_job s.part j
  case lane =>
    simp only [tick, tick_lane]
    exact lane_tick_eq _ _
  case place =>
    simp only [tick, tick_lane]
    exact lane_tick_place _ _ k
  case board =>
    simp only [tick, tick_board]
    rfl
  case interval =>
    simp only [tick, tick_board]
    exact board_tick_staged_running _ running
  case noInterval =>
    simp only [tick, tick_board]
    exact board_tick_staged_of_not_running _ notRunning

end Sys2Proof.IdleStep
end
